-- ==== Sys2Proof/Word.lean ====
section
/-! DEFINITION. The word types of the block: a register, command word or host-port register has 16 bits, a bus byte
and a text character 8 (spec/00_scope.md R6, R7). -/

namespace Sys2Proof

/-- A 16-bit register, command word, `ARG`, `RESULT` or RDS block (R7). -/
abbrev Word := BitVec 16

/-- One byte on the bus, or one received character (R60, R229). -/
abbrev Byte := BitVec 8

end Sys2Proof
end

