-- ==== Sys2Proof/Syntax.lean ====
section
/-! DEFINITION. The commands of the block as syntax: one constructor per row of spec/opcode_table.json (30_encoding.md
R93), with the operand fields of its format (R91, R92). -/

namespace Sys2Proof

/-- The four accumulators, ids 0 to 3 (10_state.md R43). -/
inductive AccId where
  | ps | rt | paging | ptyn
deriving DecidableEq, Repr, Inhabited

/-- A buffer of an accumulator, and the flag that selects it: 0 is buffer A, 1 is buffer B (R42, R92). -/
inductive BufId where
  | a | b
deriving DecidableEq, Repr, Inhabited

/-- The version of an RDS group: bit 0 is A, 1 is B (30_encoding.md R98). -/
inductive GroupVer where
  | a | b
deriving DecidableEq, Repr, Inhabited

/-- The identity word ID_RD selects (43_rds_decoder.md R246): SEL 0 is PI, SEL 1 is INFO (30_encoding.md R99). -/
inductive IdSel where
  | pi | info
deriving DecidableEq, Repr, Inhabited

/-- The 19 commands (30_encoding.md R93). An operand has the width of its field in the command word; the operand that
travels in `ARG` is no part of the command word (R90) and is read from State. -/
inductive Instr where
  | nop
  | readAll
  | writeCfg
  | shadowRd (idx : BitVec 4)
  | shadowWr (idx : BitVec 4)
  | fieldGet (fid : BitVec 6)
  | fieldSet (fid : BitVec 6)
  | fieldExtract (fid : BitVec 6)
  | powerUp
  | powerDown
  | seek (mode up : BitVec 1)
  | tune
  | rdsDecode
  | rdsCapture (fen : Bool) (gt : BitVec 4) (gv : GroupVer)
  | rdsReset
  | accRd (acc : AccId) (buf : BufId) (slot : BitVec 6)
  | accRecv (acc : AccId) (buf : BufId)
  | accCur (acc : AccId)
  | idRd (sel : IdSel)
deriving DecidableEq, Repr, Inhabited

end Sys2Proof
end

