-- ==== Sys2Proof/Decode.lean ====
section
/-! DEFINITION. The decoder of command words (30_encoding.md R90 to R97), total on all 65536 words and rejecting by
name, and after it the encoder, written from the same tables. Decoding depends on the command word alone (R97). -/

namespace Sys2Proof

/-- Why a command word names no command (R94, R95). -/
inductive DecodeError where
  /-- OP 0x13 to 0x1F (R94). -/
  | illegalOpcode
  /-- A reserved bit of the opcode's format is 1 (R95). -/
  | reservedBits
deriving DecidableEq, Repr

/-- What the decoder answers: a command, or the reason there is none. -/
inductive Decoded where
  | command (i : Instr)
  | rejected (e : DecodeError)
deriving DecidableEq, Repr

/-- Two columns of the opcode map R93: the mask of the opcode and reserved bits, and the word with every field 0. -/
structure OpRow where
  mask : Word
  base : Word
deriving DecidableEq, Repr

/-- The opcode map of 30_encoding.md R93; the row number is OP. -/
def opTable : List OpRow :=
  [ ⟨0xFFFF, 0x0000⟩, ⟨0xFFFF, 0x0800⟩, ⟨0xFFFF, 0x1000⟩, ⟨0xFFF0, 0x1800⟩, ⟨0xFFF0, 0x2000⟩,
    ⟨0xFFC0, 0x2800⟩, ⟨0xFFC0, 0x3000⟩, ⟨0xFFC0, 0x3800⟩, ⟨0xFFFF, 0x4000⟩, ⟨0xFFFF, 0x4800⟩ ] ++
  [ ⟨0xFFFC, 0x5000⟩, ⟨0xFFFF, 0x5800⟩, ⟨0xFFFF, 0x6000⟩, ⟨0xFFC0, 0x6800⟩, ⟨0xFFFF, 0x7000⟩,
    ⟨0xF8C0, 0x7800⟩, ⟨0xF8FF, 0x8000⟩, ⟨0xF9FF, 0x8800⟩, ⟨0xFFFE, 0x9000⟩ ]

/-- OP = CW[15:11] (R90). -/
def opcodeOf (w : Word) : BitVec 5 := w.extractLsb 15 11

/-- ACC, 2 bits, as an accumulator id (R43, R92). -/
def accOfCode (c : BitVec 2) : AccId :=
  match c.toNat with
  | 0 => .ps
  | 1 => .rt
  | 2 => .paging
  | _ => .ptyn

/-- The id of an accumulator (R43). -/
def accCode : AccId → BitVec 2
  | .ps => 0
  | .rt => 1
  | .paging => 2
  | .ptyn => 3

/-- A 1-bit buffer selector or A/B flag: 0 is buffer A, 1 buffer B (R92, D26). -/
def bufOfBit (b : BitVec 1) : BufId := if b = 0 then .a else .b

/-- The bit of a buffer selector. -/
def bufBit : BufId → BitVec 1
  | .a => 0
  | .b => 1

/-- GVER: 0 is A, 1 is B (R98). -/
def verOfBit (b : BitVec 1) : GroupVer := if b = 0 then .a else .b

/-- The bit of a group version. -/
def verBit : GroupVer → BitVec 1
  | .a => 0
  | .b => 1

/-- SEL: 0 is PI, 1 is INFO (R99, R246). -/
def selOfBit (b : BitVec 1) : IdSel := if b = 0 then .pi else .info

/-- The bit of an identity selector. -/
def selBit : IdSel → BitVec 1
  | .pi => 0
  | .info => 1

/-- The command of an assigned opcode with the operand fields of its format (R91, R92, R93). -/
def commandOf (op : Nat) (w : Word) : Decoded :=
  match op with
  | 0x00 => .command .nop
  | 0x01 => .command .readAll
  | 0x02 => .command .writeCfg
  | 0x03 => .command (.shadowRd (w.extractLsb 3 0))
  | 0x04 => .command (.shadowWr (w.extractLsb 3 0))
  | 0x05 => .command (.fieldGet (w.extractLsb 5 0))
  | 0x06 => .command (.fieldSet (w.extractLsb 5 0))
  | 0x07 => .command (.fieldExtract (w.extractLsb 5 0))
  | 0x08 => .command .powerUp
  | 0x09 => .command .powerDown
  | 0x0A => .command (.seek (w.extractLsb 1 1) (w.extractLsb 0 0))
  | 0x0B => .command .tune
  | 0x0C => .command .rdsDecode
  | 0x0D => .command (.rdsCapture (w.getLsbD 5) (w.extractLsb 4 1) (verOfBit (w.extractLsb 0 0)))
  | 0x0E => .command .rdsReset
  | 0x0F => .command (.accRd (accOfCode (w.extractLsb 10 9)) (bufOfBit (w.extractLsb 8 8)) (w.extractLsb 5 0))
  | 0x10 => .command (.accRecv (accOfCode (w.extractLsb 10 9)) (bufOfBit (w.extractLsb 8 8)))
  | 0x11 => .command (.accCur (accOfCode (w.extractLsb 10 9)))
  | 0x12 => .command (.idRd (selOfBit (w.extractLsb 0 0)))
  | _ => .rejected .illegalOpcode

/-- Decodes one command word (R93 to R97): a word is legal when `(CW & mask) == match` for its opcode's row. -/
def decode (w : Word) : Decoded :=
  match opTable[(opcodeOf w).toNat]? with
  | none => .rejected .illegalOpcode
  | some row => if w &&& row.mask = row.base then commandOf (opcodeOf w).toNat w else .rejected .reservedBits

/-- The command word of a command (R91, R93): the opcode's `match` with each field at its place. -/
def encode : Instr → Word
  | .nop => 0x0000
  | .readAll => 0x0800
  | .writeCfg => 0x1000
  | .shadowRd idx => 0x1800 ||| idx.setWidth 16
  | .shadowWr idx => 0x2000 ||| idx.setWidth 16
  | .fieldGet fid => 0x2800 ||| fid.setWidth 16
  | .fieldSet fid => 0x3000 ||| fid.setWidth 16
  | .fieldExtract fid => 0x3800 ||| fid.setWidth 16
  | .powerUp => 0x4000
  | .powerDown => 0x4800
  | .seek mode up => 0x5000 ||| mode.setWidth 16 <<< 1 ||| up.setWidth 16
  | .tune => 0x5800
  | .rdsDecode => 0x6000
  | .rdsCapture fen gt gv =>
    0x6800 ||| (BitVec.ofBool fen).setWidth 16 <<< 5 ||| gt.setWidth 16 <<< 1 ||| (verBit gv).setWidth 16
  | .rdsReset => 0x7000
  | .accRd acc buf slot =>
    0x7800 ||| (accCode acc).setWidth 16 <<< 9 ||| (bufBit buf).setWidth 16 <<< 8 ||| slot.setWidth 16
  | .accRecv acc buf => 0x8000 ||| (accCode acc).setWidth 16 <<< 9 ||| (bufBit buf).setWidth 16 <<< 8
  | .accCur acc => 0x8800 ||| (accCode acc).setWidth 16 <<< 9
  | .idRd sel => 0x9000 ||| (selBit sel).setWidth 16

/-- The command the decoder reads from a table row's word. Every row of the table is one 16-bit word (R97). -/
def decodeTableWord (nbits w : Nat) : Option Instr :=
  match decode (BitVec.ofNat 16 (w % 2 ^ nbits)) with
  | .command i => some i
  | .rejected _ => none

end Sys2Proof
end

