-- ==== Sys2Proof/Config.lean ====
section
/-! DEFINITION. The parameters of one instance of the block (spec/00_scope.md R6): those that R6 leaves OPEN and the
timing ones, which 93_implementation_defined.md U12 makes named arguments of the model; and the free answers of the two oracles (the tuner device, R64, and the time base, R290). The opaque
constants have no body: nothing can be proved of their values. -/

namespace Sys2Proof.Config

/-- The OPEN parameters of 00_scope.md R6, which "the model takes as an argument". `devAddr` is a transport address
whose width is the transport's (D8). -/
structure OpenParams where
  devAddr : Nat
  readCmd : Byte
  defaultFreq : Word
  deDefault : BitVec 1
  spaceDefault : BitVec 2
  seekthDefault : BitVec 8
  sksnrDefault : BitVec 4
  skcntDefault : BitVec 4
deriving DecidableEq, Repr, Inhabited

/-- The timing parameters of 00_scope.md R6, each "a named argument of the model" (93_implementation_defined.md U12). All
are in milliseconds but `nTunePolls`, a count. -/
structure TimingParams where
  /-- `T_XOSC_MS` (D20). -/
  tXoscMs : Nat
  /-- `T_PWRUP_MS` (D20). -/
  tPwrupMs : Nat
  /-- `T_PWRDN_MS` (D22). -/
  tPwrdnMs : Nat
  /-- `T_SEEK_MS` (D17). -/
  tSeekMs : Nat
  /-- `T_SEEK_POLL_MS` (D17). -/
  tSeekPollMs : Nat
  /-- `N_TUNE_POLLS` (D18). -/
  nTunePolls : Nat
  /-- `T_TUNE_POLL_MS` (D18). -/
  tTunePollMs : Nat
  /-- `T_RDS_MS` (D23). -/
  tRdsMs : Nat
  /-- `T_RDS_POLL_MS` (D23). -/
  tRdsPollMs : Nat
  /-- `CAPTURE_UNIT_MS` (D29). -/
  captureUnitMs : Nat
deriving DecidableEq, Repr, Inhabited

/-- All the parameters of R6 that are no fixed property of the device or the band. -/
structure Params extends OpenParams, TimingParams
deriving DecidableEq, Repr, Inhabited

/-- The transport's answer to a read transaction (R60, R61): the bytes it delivered, or `BusError`. An answer of a
length other than 32 is legal here; the block treats it as `BusError` (R66, R286). -/
inductive ReadAnswer where
  | bytes (b : List Byte)
  | busError
deriving DecidableEq, Repr, Inhabited

/-- The transport's answer to a write transaction (R61). -/
inductive WriteAnswer where
  | ok
  | busError
deriving DecidableEq, Repr, Inhabited

/-- The OPEN parameters of the instance that `State.reset` describes (notes/assumptions/6). -/
opaque openParams : OpenParams

/-- What the tuner answers to a read whose answer no script gives: any answer (R64; notes/assumptions/2). The argument
is the number of read answers drawn before. -/
opaque freeRead : Nat → ReadAnswer

/-- What the transport answers to a write whose answer no script gives: `Ok` or `BusError` (R64; notes/assumptions/2). -/
opaque freeWrite : Nat → WriteAnswer

/-- By how much a `Now()` answer exceeds the bound of the time law when no script gives it: any natural number
(R290; notes/assumptions/3). -/
opaque freeSlack : Nat → Nat

end Sys2Proof.Config
end

