-- ==== Sys2Proof/Machine/Timing.lean ====
section
/-! DEFINITION. The values that spec/00_scope.md R6 gives the timing parameters (notes/assumptions/7). -/

namespace Sys2Proof.Machine

/-- The timing parameters at the values of the table of R6. Every meaning takes them from `env.params`
(93_implementation_defined.md U12); these are the ones `State.reset` has there. -/
def timingTable : Config.TimingParams :=
  { tXoscMs := 500, tPwrupMs := 110, tPwrdnMs := 110, tSeekMs := 60000, tSeekPollMs := 100, nTunePolls := 10,
    tTunePollMs := 1000, tRdsMs := 1000, tRdsPollMs := 10, captureUnitMs := 100 }

end Sys2Proof.Machine
end

