-- ==== Sys2Proof/Machine/State.lean ====
section
/-! DEFINITION. The state of the block as plain data (spec/10_state.md), its reset value (70_reset_and_hazards.md R310),
and the reasons a step can stop. The block has no memory address space (20_memory.md R67) and no program counter
(R34), so State holds neither. -/

namespace Sys2Proof.Machine

/-- The sequencer state `STATE` (10_state.md R35). The transient ones exist only while a command runs. -/
inductive SeqState where
  | poweredDown | poweringUp | ready | seeking | tuning | poweringDown | rdsFetch | halted
deriving DecidableEq, Repr, Inhabited

/-- The error outcomes (60_exceptions.md R280, codes 0x8 to 0xE). -/
inductive ErrCode where
  | illegalOpcode | reservedBits | illegalState | badIndex | badValue | notSynced | bus
deriving DecidableEq, Repr, Inhabited

/-- The values of `STAT.OUTCOME` (R280): exactly these eleven are ever produced. -/
inductive OutcomeCode where
  | none | ok | notFound | hwTimeout
  | err (e : ErrCode)
deriving DecidableEq, Repr, Inhabited

/-- The position of the sequencer within the running command: hidden state (10_state.md R34, R48). `idle` is the
position when no command runs. Each position names what the next step of the command performs. -/
inductive SeqPos where
  /-- No command runs: `STAT.BUSY` = 0. -/
  | idle
  /-- The command is accepted, passed checks (1) to (4) of R283 and has performed nothing yet. -/
  | start
  /-- The command failed one of the checks (1) to (4); its error completion (R282) is pending. -/
  | reject (e : ErrCode)
  /-- Only the completion with this outcome is left. -/
  | finish (o : OutcomeCode)
  /-- FIELD_GET (R151): the fresh read is done, the field is read next. -/
  | fieldRead
  /-- POWER_UP (R171): the write of XOSCEN is next. -/
  | xoscWrite
  /-- POWER_UP: the crystal settle delay is next. -/
  | xoscDelay
  /-- POWER_UP: the write of the power-up defaults is next. -/
  | configWrite
  /-- POWER_UP: the power-up delay is next. -/
  | powerUpDelay
  /-- POWER_UP: the trigger write of its TuneSeq is next (R175). -/
  | tuneTrigger
  /-- TuneSeq: a poll read is next. -/
  | tunePoll
  /-- TuneSeq: the delay between two polls is next. -/
  | tuneDelay
  /-- TuneSeq: the loop ended with this outcome; the trigger-clear write is next. -/
  | tuneExit (o : OutcomeCode)
  /-- SeekPoll (R176): a poll read is next. -/
  | seekPoll
  /-- SeekPoll: the delay between two polls is next. -/
  | seekDelay
  /-- SEEK: the loop ended with this outcome; the trigger-clear write is next. -/
  | seekExit (o : OutcomeCode)
  /-- SEEK and TuneSeq: the accumulator reset and the completion are next. -/
  | exitDone (o : OutcomeCode)
  /-- POWER_DOWN (R172): the settle delay is next. -/
  | powerDownDelay
  /-- FetchGroup (R210): a poll read is next. -/
  | fetchPoll
  /-- FetchGroup: the delay between two polls is next. -/
  | fetchDelay
  /-- RDS_DECODE (R240): a group is in the shadow; its decode is next. -/
  | decodeGroup
  /-- RDS_CAPTURE (R241): the deadline test is next. -/
  | captureTest
  /-- RDS_CAPTURE: a matching group is in the shadow; its RAW event is next. -/
  | captureEmit
  /-- RDS_CAPTURE: the delay after a fetched group is next. -/
  | captureDelay
deriving DecidableEq, Repr, Inhabited

/-- One character slot: the "is-set" bit and the byte (10_state.md R42, D27). -/
structure Slot where
  set : Bool
  ch : Byte
deriving DecidableEq, Repr, Inhabited

/-- The sentinel (0, 0x00) (R42, D27). -/
def Slot.sentinel : Slot := ⟨false, 0⟩

/-- One backing buffer of `w` slots with one received marker for each of its `segs` segments (R42, D26). -/
structure TextBuf (w segs : Nat) where
  slots : Vector Slot w
  recv : BitVec segs
deriving DecidableEq, Repr

/-- A cleared buffer: every slot the sentinel, nothing received (R42). -/
def TextBuf.empty (w segs : Nat) : TextBuf w segs := ⟨Vector.replicate w Slot.sentinel, 0⟩

/-- A double-buffered text field: `slot[acc]`, `recv[acc]` and `cur_flag[acc]` (R42). -/
structure Accum (w segs : Nat) where
  bufA : TextBuf w segs
  bufB : TextBuf w segs
  /-- `cur_flag`, as the buffer it selects: 0 is buffer A, 1 is buffer B (D26). -/
  cur : BufId
deriving DecidableEq, Repr

/-- The value of reset and of ResetAccumulators (R42, 43_rds_decoder.md R230). -/
def Accum.empty (w segs : Nat) : Accum w segs := ⟨TextBuf.empty w segs, TextBuf.empty w segs, .a⟩

/-- The four accumulators with the geometry of 10_state.md R43 (width in characters, number of segments). -/
structure AccFile where
  ps : Accum 8 4
  rt : Accum 64 16
  paging : Accum 64 16
  ptyn : Accum 8 2
deriving DecidableEq, Repr

/-- All four accumulators cleared (R230). -/
def AccFile.empty : AccFile := ⟨.empty 8 4, .empty 64 16, .empty 64 16, .empty 8 2⟩

/-- The station identity (10_state.md R44). -/
structure Identity where
  valid : Bool
  pi : Word
  pty : BitVec 5
  tp : BitVec 1
deriving DecidableEq, Repr, Inhabited

/-- The identity at reset and after ResetAccumulators: all 0 (R44, R230). -/
def Identity.empty : Identity := ⟨false, 0, 0, 0⟩

/-- The slow-labelling tags of group 1A (43_rds_decoder.md R220). -/
inductive SlTag where
  | country | tmc | paging | language | reserved | broadcaster | ews
deriving DecidableEq, Repr, Inhabited

/-- The variant tags of group 14A (R225). -/
inductive EonTag where
  | psFragment | afPair | mappedFreq | reserved | linkage | ptyTa | pin
deriving DecidableEq, Repr, Inhabited

/-- The slow-labelling part of a GRP1 event (R231). -/
structure SlowLabel where
  la : BitVec 1
  variant : BitVec 3
  data : BitVec 12
  tag : SlTag
deriving DecidableEq, Repr, Inhabited

/-- The closed set of event records with the field widths of 43_rds_decoder.md R231. `offset` of CLOCK is a signed
number of half-hours. -/
inductive Event where
  | grp0a (seg : BitVec 2) (ta ms di : BitVec 1) (af1 af2 : Word) (c0 c1 : Byte)
  | grp1 (ver : BitVec 1) (day hour : BitVec 5) (minute : BitVec 6) (sl : Option SlowLabel)
  | grp3a (agtc : BitVec 5) (msg aid : Word)
  | clock (year : Word) (month : BitVec 4) (day : BitVec 5) (weekday : BitVec 3) (hour : BitVec 5)
      (minute : BitVec 6) (offset : Int)
  | grp14a (tpOn : BitVec 1) (variant : BitVec 4) (info piOn : Word) (tag : EonTag)
  | unrec (gtype : BitVec 4) (gver : BitVec 1) (a b c d : Word)
  | raw (a b c d : Word)
deriving DecidableEq, Repr, Inhabited

/-- One entry of the bus history (10_state.md R46, 20_memory.md R60, R61): `wr` is
`write(addr, bytes[0], bytes[1..11])`, `rd` is `read(addr, cmd, count)`, each with the transport's answer. -/
inductive BusTx where
  | wr (addr : Nat) (bytes : List Byte) (answer : Config.WriteAnswer)
  | rd (addr : Nat) (cmd : Byte) (count : Nat) (answer : Config.ReadAnswer)
deriving DecidableEq, Repr, Inhabited

/-- What happens at one boundary between two steps (60_exceptions.md R298): the block takes its next step, or the
host accesses a host-port word offset, or the host asserts `rst`. -/
inductive HostAct where
  | turn
  | write (off : BitVec 3) (v : Word)
  | read (off : BitVec 3)
  | rst
deriving DecidableEq, Repr, Inhabited

/-- The MODEL's own part of the state: the other agents (R298) as plain data. `rst` changes none of it.
The tuner's and the time base's coming answers stand in the scripts; where a script is empty the answer is an opaque
constant of Config applied to the number of answers drawn before (notes/assumptions/2, 3). -/
structure Env where
  /-- The OPEN and the timing parameters of 00_scope.md R6; no step changes them (notes/assumptions/6, 7). -/
  params : Config.Params
  /-- The tuner's coming answers to reads (20_memory.md R64). -/
  readScript : List Config.ReadAnswer
  /-- The transport's coming answers to writes (R64). -/
  writeScript : List Config.WriteAnswer
  /-- By how much each coming `Now()` answer exceeds the bound of the time law (60_exceptions.md R290). -/
  slackScript : List Nat
  /-- How many read answers were drawn so far. -/
  readDraws : Nat
  /-- How many write answers were drawn so far. -/
  writeDraws : Nat
  /-- How many `Now()` answers were drawn so far. -/
  nowDraws : Nat
  /-- The least value R290 allows the next `Now()` to answer: the last answer plus the delays since. Before the first
  answer there is no such bound (notes/assumptions/3). -/
  clock : Option Nat
  /-- What the host does at the coming step boundaries (notes/assumptions/4). -/
  agenda : List HostAct
  /-- What the host's reads returned, in order (notes/assumptions/16). -/
  hostReads : List Word
deriving DecidableEq, Repr

/-- The environment of `State.reset`: nothing scripted, nothing drawn, the OPEN parameters opaque, the timing parameters
at R6's values (notes/assumptions/6, 7). -/
def Env.initial : Env :=
  { params := { toOpenParams := Config.openParams, toTimingParams := timingTable }, readScript := [], writeScript := [], slackScript := [], readDraws := 0,
    writeDraws := 0, nowDraws := 0, clock := none, agenda := [], hostReads := [] }

/-- Everything the spec gives the machine (spec/10_state.md), and the environment. `STAT.BUSY` is not a field: a
command runs exactly while `pos` is not `idle` (notes/assumptions/8). -/
structure State where
  /-- The shadow `x[0x00]` to `x[0x0F]` (R20). -/
  x : Vector Word 16
  /-- `shadow_valid` (R21). -/
  shadowValid : Bool
  /-- `STATE` (R35). -/
  seqState : SeqState
  /-- `STAT.OUTCOME` (R36). -/
  outcome : OutcomeCode
  /-- `STAT.DROPPED`, sticky (R36). -/
  dropped : Bool
  /-- `STAT.BUSERR`, sticky (R36). -/
  busErr : Bool
  /-- `cw_cur` (R37). -/
  cwCur : Word
  /-- `arg_cur` (R37). -/
  argCur : Word
  /-- `ARG` (R39). -/
  arg : Word
  /-- `RESULT` (R40). -/
  result : Word
  /-- `ERRCMD` (R41). -/
  errCmd : Word
  /-- The accumulators (R42, R43). -/
  acc : AccFile
  /-- The station identity (R44). -/
  ident : Identity
  /-- The event history, oldest first (R45). -/
  events : List Event
  /-- The bus history, oldest first (R46). -/
  bus : List BusTx
  /-- Hidden: the sequence position (R48). -/
  pos : SeqPos
  /-- Hidden: the deadline start `t0` (R48). -/
  t0 : Nat
  /-- Hidden: the poll counter `i` of the tune loop (R48). -/
  polls : Nat
  /-- Hidden: the capture deadline start `tc` (R48). -/
  tc : Nat
  /-- The model's own: the other agents. -/
  env : Env
deriving DecidableEq, Repr

/-- The state right after reset (70_reset_and_hazards.md R310). The hidden `pos`, `t0`, `polls` and `tc`, which the
spec calls unspecified, stand at `idle` and 0 (notes/assumptions/5). -/
def State.reset : State :=
  { x := Vector.replicate 16 0, shadowValid := false, seqState := .poweredDown, outcome := .none, dropped := false,
    busErr := false, cwCur := 0, argCur := 0, arg := 0, result := 0, errCmd := 0, acc := .empty, ident := .empty,
    events := [], bus := [], pos := .idle, t0 := 0, polls := 0, tc := 0, env := .initial }

/-- Why the model stops a step. The spec names no stop: every error it describes is a next state (60_exceptions.md
R280, R286). -/
inductive Fault where
  /-- Raised by a meaning, and by a step on a word that names no command, when the hidden sequence position is one that
  the running command never takes. No run from reset reaches such a state (the invariant `State.consistent` of
  Sys2Proof/Safety.lean). Safe: the model stops where the spec gives nothing (notes/assumptions/9). -/
  | sequencerDesync
deriving DecidableEq, Repr

/-- Why the model gives an instruction no meaning. -/
inductive Refusal where
  /-- Answered by `exec` for an instruction without a meaning; safe. Every instruction has a meaning, so nothing
  answers it. -/
  | notModelled (mnemonic : String)
deriving DecidableEq, Repr

/-- What one step answers. -/
abbrev StepResult := Host.Outcome State Fault Refusal

end Sys2Proof.Machine
end

