-- ==== Sys2Proof/Machine/Operands.lean ====
section
/-! DEFINITION. What an operand names: shadow registers (10_state.md R20), the field table with its extract and insert
(41_field_decoder.md R140, R141), field ids and their access classes (R145), the frequency mapping (R146, R147), and
the accumulator geometry and slots (R42, R43). -/

namespace Sys2Proof.Machine

/-! ## Shadow registers -/

/-- Reads shadow register `i` (00_scope.md R8). -/
def State.reg (s : State) (i : BitVec 4) : Word := s.x[i.toNat]

/-- Writes shadow register `i` (R8). -/
def State.setReg (s : State) (i : BitVec 4) (v : Word) : State := { s with x := s.x.set i.toNat v }

/-- The write window 0x02 to 0x07 (R96, D13): the registers SHADOW_WR accepts. -/
def writableIndex (idx : BitVec 4) : Bool := decide (2 ≤ idx.toNat ∧ idx.toNat ≤ 7)

/-! ## The field table -/

/-- One row of the field table R140: the register, the mask and the offset of a field, and its width. -/
structure FieldRow where
  reg : BitVec 4
  mask : Word
  offset : Nat
  width : Nat
deriving DecidableEq, Repr, Inhabited

namespace Field
/-! DeviceID and ChipID (10_state.md R23, R24). -/
def pn : FieldRow := ⟨0x0, 0xF000, 12, 4⟩
def mfgid : FieldRow := ⟨0x0, 0x0FFF, 0, 12⟩
def rev : FieldRow := ⟨0x1, 0xFC00, 10, 6⟩
def dev : FieldRow := ⟨0x1, 0x03C0, 6, 4⟩
def firmware : FieldRow := ⟨0x1, 0x003F, 0, 6⟩
/-! PowerCfg (R25). -/
def dsmute : FieldRow := ⟨0x2, 0x8000, 15, 1⟩
def dmute : FieldRow := ⟨0x2, 0x4000, 14, 1⟩
def mono : FieldRow := ⟨0x2, 0x2000, 13, 1⟩
def rdsm : FieldRow := ⟨0x2, 0x0800, 11, 1⟩
def skmode : FieldRow := ⟨0x2, 0x0400, 10, 1⟩
def seekup : FieldRow := ⟨0x2, 0x0200, 9, 1⟩
def seek : FieldRow := ⟨0x2, 0x0100, 8, 1⟩
def disable : FieldRow := ⟨0x2, 0x0040, 6, 1⟩
def enable : FieldRow := ⟨0x2, 0x0001, 0, 1⟩
/-! Channel (R26). -/
def tune : FieldRow := ⟨0x3, 0x8000, 15, 1⟩
def chan : FieldRow := ⟨0x3, 0x03FF, 0, 10⟩
/-! SysConfig1 (R27). -/
def rdsien : FieldRow := ⟨0x4, 0x8000, 15, 1⟩
def stcien : FieldRow := ⟨0x4, 0x4000, 14, 1⟩
def rds : FieldRow := ⟨0x4, 0x1000, 12, 1⟩
def de : FieldRow := ⟨0x4, 0x0800, 11, 1⟩
def agcd : FieldRow := ⟨0x4, 0x0400, 10, 1⟩
def blndadj : FieldRow := ⟨0x4, 0x00C0, 6, 2⟩
def gpio3 : FieldRow := ⟨0x4, 0x0030, 4, 2⟩
def gpio2 : FieldRow := ⟨0x4, 0x000C, 2, 2⟩
def gpio1 : FieldRow := ⟨0x4, 0x0003, 0, 2⟩
/-! SysConfig2 (R28). -/
def seekth : FieldRow := ⟨0x5, 0xFF00, 8, 8⟩
def band : FieldRow := ⟨0x5, 0x00C0, 6, 2⟩
def space : FieldRow := ⟨0x5, 0x0030, 4, 2⟩
def volume : FieldRow := ⟨0x5, 0x000F, 0, 4⟩
/-! SysConfig3 (R29). -/
def smuter : FieldRow := ⟨0x6, 0xC000, 14, 2⟩
def smutea : FieldRow := ⟨0x6, 0x3000, 12, 2⟩
def volext : FieldRow := ⟨0x6, 0x0100, 8, 1⟩
def sksnr : FieldRow := ⟨0x6, 0x00F0, 4, 4⟩
def skcnt : FieldRow := ⟨0x6, 0x000F, 0, 4⟩
/-! Test1 (R30). -/
def xoscen : FieldRow := ⟨0x7, 0x8000, 15, 1⟩
def ahizen : FieldRow := ⟨0x7, 0x4000, 14, 1⟩
/-! Status (R31). -/
def rdsr : FieldRow := ⟨0xA, 0x8000, 15, 1⟩
def stc : FieldRow := ⟨0xA, 0x4000, 14, 1⟩
def sfbl : FieldRow := ⟨0xA, 0x2000, 13, 1⟩
def afcrl : FieldRow := ⟨0xA, 0x1000, 12, 1⟩
def rdss : FieldRow := ⟨0xA, 0x0800, 11, 1⟩
def blera : FieldRow := ⟨0xA, 0x0600, 9, 2⟩
def st : FieldRow := ⟨0xA, 0x0100, 8, 1⟩
def rssi : FieldRow := ⟨0xA, 0x00FF, 0, 8⟩
/-! ReadChan (R32). -/
def blerb : FieldRow := ⟨0xB, 0xC000, 14, 2⟩
def blerc : FieldRow := ⟨0xB, 0x3000, 12, 2⟩
def blerd : FieldRow := ⟨0xB, 0x0C00, 10, 2⟩
def channel : FieldRow := ⟨0xB, 0x03FF, 0, 10⟩
end Field

/-- FIDs 0 to 47 in order (41_field_decoder.md R140). -/
def fieldTable : List FieldRow :=
  [Field.pn, Field.mfgid, Field.rev, Field.dev, Field.firmware] ++
  [Field.dsmute, Field.dmute, Field.mono, Field.rdsm, Field.skmode, Field.seekup, Field.seek, Field.disable,
    Field.enable] ++
  [Field.tune, Field.chan] ++
  [Field.rdsien, Field.stcien, Field.rds, Field.de, Field.agcd, Field.blndadj, Field.gpio3, Field.gpio2, Field.gpio1] ++
  [Field.seekth, Field.band, Field.space, Field.volume] ++
  [Field.smuter, Field.smutea, Field.volext, Field.sksnr, Field.skcnt] ++
  [Field.xoscen, Field.ahizen] ++
  [Field.rdsr, Field.stc, Field.sfbl, Field.afcrl, Field.rdss, Field.blera, Field.st, Field.rssi] ++
  [Field.blerb, Field.blerc, Field.blerd, Field.channel]

/-- `get(v, f)` of R141. -/
def FieldRow.get (f : FieldRow) (v : Word) : Word := (v &&& f.mask) >>> f.offset

/-- `set(v, f, a)` of R141, which the spec defines for `a` below `2^w`. -/
def FieldRow.set (f : FieldRow) (v a : Word) : Word := (v &&& ~~~f.mask) ||| ((a <<< f.offset) &&& f.mask)

/-- `REG.FIELD` (00_scope.md R9). -/
def State.getField (s : State) (f : FieldRow) : Word := f.get (s.reg f.reg)

/-- `REG.FIELD <- a` (R9, R141). -/
def State.setField (s : State) (f : FieldRow) (a : Word) : State := s.setReg f.reg (f.set (s.reg f.reg) a)

/-! ## Field ids -/

/-- FID 0 to 48 name a field; 49 to 63 name nothing (R140). -/
def knownFid (fid : BitVec 6) : Bool := decide (fid.toNat ≤ 48)

/-- FID 5 to 35 are read/write; the others are read-only or name nothing (R145). -/
def writableFid (fid : BitVec 6) : Bool := decide (5 ≤ fid.toNat ∧ fid.toNat ≤ 35)

/-- FID 36 to 48 are fresh: FIELD_GET reads the device first (R140, R145, R151). -/
def freshFid (fid : BitVec 6) : Bool := decide (36 ≤ fid.toNat ∧ fid.toNat ≤ 48)

/-- The row a field id reads. FID 48 (READFREQ) is derived from the CHANNEL field (R146), so its row is CHANNEL's; an
id that names nothing never reaches this table (R96). -/
def fieldRow (fid : BitVec 6) : FieldRow := fieldTable.getD fid.toNat Field.channel

/-- The value FIELD_GET and FIELD_EXTRACT give for a register value `v` (R151, R153): READFREQ is CHANNEL + 875
(R146), every other field its bits, zero-extended. -/
def fieldValue (fid : BitVec 6) (v : Word) : Word :=
  if fid = 48 then (fieldRow fid).get v + 875 else (fieldRow fid).get v

/-! ## Frequencies -/

/-- `F_LOW`, tenths of MHz (R6). -/
def fLow : Nat := 875

/-- `F_HIGH`, tenths of MHz (R6). -/
def fHigh : Nat := 1080

/-- `freq_to_chan(f)` of R147: the clamped frequency as a channel number, 0 to 205. -/
def freqToChan (f : Word) : Nat := min (max f.toNat fLow) fHigh - fLow

/-- `chan_to_freq(c)` of R147. -/
def chanToFreq (c : Nat) : Nat := c + fLow

/-! ## Accumulators -/

/-- W, the width in characters (10_state.md R43). -/
def accWidth : AccId → Nat
  | .ps => 8
  | .rt => 64
  | .paging => 64
  | .ptyn => 8

/-- One buffer of an accumulator: A for flag 0, B for flag 1 (R42, D26). -/
def Accum.buf {w segs : Nat} (a : Accum w segs) : BufId → TextBuf w segs
  | .a => a.bufA
  | .b => a.bufB

/-- Replaces one buffer and leaves the other. -/
def Accum.setBuf {w segs : Nat} (a : Accum w segs) (f : BufId) (t : TextBuf w segs) : Accum w segs :=
  match f with
  | .a => { a with bufA := t }
  | .b => { a with bufB := t }

/-- Slot `k` of a buffer; a slot number beyond the width never reaches it (R96, R243). -/
def TextBuf.slotAt {w segs : Nat} (t : TextBuf w segs) (k : Nat) : Slot := t.slots.getD k Slot.sentinel

/-- `slot[acc][buf][k]` (R42). -/
def State.slotOf (s : State) (acc : AccId) (buf : BufId) (k : Nat) : Slot :=
  match acc with
  | .ps => (s.acc.ps.buf buf).slotAt k
  | .rt => (s.acc.rt.buf buf).slotAt k
  | .paging => (s.acc.paging.buf buf).slotAt k
  | .ptyn => (s.acc.ptyn.buf buf).slotAt k

/-- `zext16(recv[acc][buf])`: bit k is segment k (R42, R244). -/
def State.recvOf (s : State) (acc : AccId) (buf : BufId) : Word :=
  match acc with
  | .ps => (s.acc.ps.buf buf).recv.setWidth 16
  | .rt => (s.acc.rt.buf buf).recv.setWidth 16
  | .paging => (s.acc.paging.buf buf).recv.setWidth 16
  | .ptyn => (s.acc.ptyn.buf buf).recv.setWidth 16

/-- `cur_flag[acc]` (R42), as the buffer it selects. -/
def State.curFlagOf (s : State) (acc : AccId) : BufId :=
  match acc with
  | .ps => s.acc.ps.cur
  | .rt => s.acc.rt.cur
  | .paging => s.acc.paging.cur
  | .ptyn => s.acc.ptyn.cur

end Sys2Proof.Machine
end

