-- ==== Sys2Proof/Machine/Flags.lean ====
section
/-! DEFINITION. The flags of the block (10_state.md R47): the STAT word and its codes (R35, R36, 60_exceptions.md R280),
the device status flags (R31), and the classification of a poll loop's end (42_tuning_fsm.md R178). -/

namespace Sys2Proof.Machine

/-- The 3-bit code of `STATE` (10_state.md R35). -/
def SeqState.code : SeqState → BitVec 3
  | .poweredDown => 0
  | .poweringUp => 1
  | .ready => 2
  | .seeking => 3
  | .tuning => 4
  | .poweringDown => 5
  | .rdsFetch => 6
  | .halted => 7

/-- The states in which a command can be accepted: the "Stable" column of R35. -/
def SeqState.stable : SeqState → Bool
  | .poweredDown | .ready | .halted => true
  | .poweringUp | .seeking | .tuning | .poweringDown | .rdsFetch => false

/-- The 4-bit code of an error outcome (60_exceptions.md R280). -/
def ErrCode.code : ErrCode → BitVec 4
  | .illegalOpcode => 0x8
  | .reservedBits => 0x9
  | .illegalState => 0xA
  | .badIndex => 0xB
  | .badValue => 0xC
  | .notSynced => 0xD
  | .bus => 0xE

/-- The 4-bit code of `STAT.OUTCOME` (R280). -/
def OutcomeCode.code : OutcomeCode → BitVec 4
  | .none => 0x0
  | .ok => 0x1
  | .notFound => 0x2
  | .hwTimeout => 0x3
  | .err e => e.code

/-- `STAT.BUSY` (10_state.md R36): a command runs. -/
def State.busy (s : State) : Bool := decide (s.pos ≠ .idle)

/-- The STAT word (R36): BUSY, STATE, OUTCOME, six bits that read 0, DROPPED, BUSERR, from bit 15 down. -/
def State.stat (s : State) : Word :=
  (BitVec.ofBool s.busy).setWidth 16 <<< 15 ||| s.seqState.code.setWidth 16 <<< 12 |||
    s.outcome.code.setWidth 16 <<< 8 ||| (BitVec.ofBool s.dropped).setWidth 16 <<< 1 |||
    (BitVec.ofBool s.busErr).setWidth 16

/-- `Status.RDSR` = 1 as last read (R31). -/
def State.rdsr (s : State) : Bool := decide (s.getField Field.rdsr = 1)

/-- `Status.STC` = 1 as last read (R31). -/
def State.stc (s : State) : Bool := decide (s.getField Field.stc = 1)

/-- `Status.SFBL` = 1 as last read (R31). -/
def State.sfbl (s : State) : Bool := decide (s.getField Field.sfbl = 1)

/-- `Classify(stc, sfbl)` (42_tuning_fsm.md R178, 90_conflicts.md C1). -/
def classify (stc sfbl : Bool) : OutcomeCode :=
  match stc, sfbl with
  | true, true => .notFound
  | false, true => .notFound
  | true, false => .ok
  | false, false => .hwTimeout

/-- `Classify(Status.STC, Status.SFBL)` of the status last read. -/
def State.pollOutcome (s : State) : OutcomeCode := classify s.stc s.sfbl

end Sys2Proof.Machine
end

