-- ==== Sys2Proof/Machine/Ops.lean ====
section
/-! DEFINITION. The operations every command is built from: completion and raising an error (60_exceptions.md R282, the
analogue of exception entry, R291), the failed bus transaction (R286), the two bus transactions (20_memory.md R60 to
R63), delays and `Now()` (R290), events (43_rds_decoder.md R231), and the acceptance of a command with its common
checks (10_state.md R38, 60_exceptions.md R283, 42_tuning_fsm.md R170). There is no return from an error to model:
the host goes on with its next command (R291). -/

namespace Sys2Proof.Machine

/-! ## Completion and errors -/

/-- `complete(o)`: `OUTCOME <- o; BUSY <- 0` as one step (10_state.md R36). -/
def complete (o : OutcomeCode) (s : State) : State := { s with outcome := o, pos := .idle }

/-- `RESULT <- v; complete(OK)` (R40): the completion of a command that reads something. -/
def completeWith (v : Word) (s : State) : State := complete .ok { s with result := v }

/-- `STATE <- st; complete(o)`: a sequence's completion; `STATE` changes in the same step (42_tuning_fsm.md R170). -/
def completeIn (st : SeqState) (o : OutcomeCode) (s : State) : State := complete o { s with seqState := st }

/-- `raise E(cw)` (60_exceptions.md R282): ERRCMD takes the command word and the command completes with the error. -/
def raise (e : ErrCode) (s : State) : State := complete (.err e) { s with errCmd := s.cwCur }

/-- A failed bus transaction, as one step (60_exceptions.md R286): the block enters HALTED. -/
def busFail (t : BusTx) (s : State) : State :=
  complete (.err .bus) { s with bus := s.bus ++ [t], busErr := true, seqState := .halted, errCmd := s.cwCur }

/-- `Emit(ev)` (43_rds_decoder.md R231). -/
def emit (e : Event) (s : State) : State := { s with events := s.events ++ [e] }

/-- Moves the sequence position of the running command (10_state.md R48). -/
def goto (p : SeqPos) (s : State) : State := { s with pos := p }

/-! ## The oracles -/

/-- The tuner's answer to the next read: the next one scripted, or a free value (20_memory.md R64). -/
def Env.peekRead (e : Env) : Config.ReadAnswer := e.readScript.headD (Config.freeRead e.readDraws)

/-- The environment once the answer to a read is drawn. -/
def Env.popRead (e : Env) : Env := { e with readScript := e.readScript.tail, readDraws := e.readDraws + 1 }

/-- The transport's answer to the next write: the next one scripted, or a free value (R64). -/
def Env.peekWrite (e : Env) : Config.WriteAnswer := e.writeScript.headD (Config.freeWrite e.writeDraws)

/-- The environment once the answer to a write is drawn. -/
def Env.popWrite (e : Env) : Env := { e with writeScript := e.writeScript.tail, writeDraws := e.writeDraws + 1 }

/-- The bound of the time law on the next `Now()` (60_exceptions.md R290): 0 before the first answer, which is any
natural number. -/
def Env.nowBound (e : Env) : Nat := e.clock.getD 0

/-- What the next `Now()` answers: at least the last answer plus the delays since (R290). -/
def Env.nowAnswer (e : Env) : Nat := e.nowBound + e.slackScript.headD (Config.freeSlack e.nowDraws)

/-- The environment once `Now()` is called: no later answer is smaller (R290 (1)). -/
def Env.popNow (e : Env) : Env :=
  { e with clock := some e.nowAnswer, slackScript := e.slackScript.tail, nowDraws := e.nowDraws + 1 }

/-- The environment after a delay of `d` ms: it raises the bound of the time law, where there is one (R290 (2)). -/
def Env.afterDelay (d : Nat) (e : Env) : Env := { e with clock := e.clock.map (· + d) }

/-- What `Now()` answers in this state (R8). -/
def State.nowAnswer (s : State) : Nat := s.env.nowAnswer

/-- The state once `Now()` is called. -/
def State.tickNow (s : State) : State := { s with env := s.env.popNow }

/-- `Delay(d)`: one step that lasts at least `d` ms (R8, R290 (2)). -/
def delay (d : Nat) (s : State) : State := { s with env := s.env.afterDelay d }

/-- `t0 <- Now()` (42_tuning_fsm.md R176, 43_rds_decoder.md R210). -/
def sampleT0 (s : State) : State := { s.tickNow with t0 := s.nowAnswer }

/-- `tc <- Now()` (43_rds_decoder.md R241). -/
def sampleTc (s : State) : State := { s.tickNow with tc := s.nowAnswer }

/-- The deadline test `Now() - start >= len`, over unbounded integers (00_scope.md R7), and what follows it. -/
def deadline (start len : Nat) (expired running : State → State) (s : State) : State :=
  if start + len ≤ s.nowAnswer then expired s.tickNow else running s.tickNow

/-! ## The two bus transactions -/

/-- The 32 bytes of a read answer, or nothing where the block must treat it as `BusError` (20_memory.md R66). -/
def payload : Config.ReadAnswer → Option (List Byte)
  | .bytes b => if b.length = 32 then some b else none
  | .busError => none

/-- `{b[2j], b[2j+1]}`, big-endian (R62, R65). -/
def wordAt (b : List Byte) (j : Nat) : Word := b.getD (2 * j) 0 ++ b.getD (2 * j + 1) 0

/-- The un-rotation of a read answer (R62): `x[(0x0A + j) mod 16]` is the j-th pair, so register `i` is pair
`(i + 6) mod 16`. -/
def unrotate (b : List Byte) : Vector Word 16 := Vector.ofFn fun i => wordAt b ((i.val + 6) % 16)

/-- What a read that delivers the 32 bytes `b` does (40_transactions.md R121, 20_memory.md R61, R62): all 16 registers
are replaced, `shadow_valid` is set, and the transaction joins the bus history. -/
def afterRead (b : List Byte) (s : State) : State :=
  { s with
    x := unrotate b, shadowValid := true, env := s.env.popRead,
    bus := s.bus ++ [.rd s.env.params.devAddr s.env.params.readCmd 32 (.bytes b)] }

/-- What a read that fails does (60_exceptions.md R286): no register changes. -/
def failedRead (s : State) : State :=
  busFail (.rd s.env.params.devAddr s.env.params.readCmd 32 .busError) { s with env := s.env.popRead }

/-- `ReadAll()` (40_transactions.md R121) and, when its transaction succeeds, what the same step goes on with. A
`BusError` aborts the command (60_exceptions.md R286). -/
def readAll (k : State → State) (s : State) : State :=
  match payload s.env.peekRead with
  | some b => k (afterRead b s)
  | none => failedRead s

/-- The two bytes of a register, high byte first (20_memory.md R65). -/
def wordBytes (w : Word) : List Byte := [w.extractLsb 15 8, w.extractLsb 7 0]

/-- The 12-byte image of registers 0x02 to 0x07 (R63). -/
def writeImage (s : State) : List Byte :=
  [2, 3, 4, 5, 6, 7].flatMap fun i : BitVec 4 => wordBytes (s.reg i)

/-- What a write that succeeds does (40_transactions.md R122, 20_memory.md R61, R63): it changes no shadow register. -/
def afterWrite (s : State) : State :=
  { s with env := s.env.popWrite, bus := s.bus ++ [.wr s.env.params.devAddr (writeImage s) .ok] }

/-- What a write that fails does (60_exceptions.md R286). -/
def failedWrite (s : State) : State :=
  busFail (.wr s.env.params.devAddr (writeImage s) .busError) { s with env := s.env.popWrite }

/-- `WriteCfg()` (40_transactions.md R122) and, when its transaction succeeds, what the same step goes on with. -/
def writeCfg (k : State → State) (s : State) : State :=
  match s.env.peekWrite with
  | .ok => k (afterWrite s)
  | .busError => failedWrite s

/-! ## Acceptance -/

/-- `Legal(op)` (60_exceptions.md R283). -/
def legalIn : Instr → SeqState → Bool
  | .powerUp, st => decide (st = .poweredDown)
  | .powerDown, st | .seek _ _, st | .tune, st | .rdsDecode, st | .rdsCapture _ _ _, st => decide (st = .ready)
  | .nop, st | .readAll, st | .writeCfg, st | .shadowRd _, st | .shadowWr _, st | .fieldGet _, st | .fieldSet _, st
  | .fieldExtract _, st | .rdsReset, st | .accRd _ _ _, st | .accRecv _ _, st | .accCur _, st | .idRd _, st =>
    decide (st = .poweredDown ∨ st = .ready)

/-- The transient state a sequence command enters on acceptance (42_tuning_fsm.md R170; RDS_FETCH, 10_state.md R35);
the other commands leave `STATE` as it is. -/
def enteredState : Instr → SeqState → SeqState
  | .powerUp, _ => .poweringUp
  | .powerDown, _ => .poweringDown
  | .seek _ _, _ => .seeking
  | .tune, _ => .tuning
  | .rdsDecode, _ | .rdsCapture _ _ _, _ => .rdsFetch
  | .nop, st | .readAll, st | .writeCfg, st | .shadowRd _, st | .shadowWr _, st | .fieldGet _, st | .fieldSet _, st
  | .fieldExtract _, st | .rdsReset, st | .accRd _ _ _, st | .accRecv _ _, st | .accCur _, st | .idRd _, st => st

/-- Checks (1) to (4) of R283, in that order: halted, reserved opcode, reserved bits, state legality. Checks (5) to
(7) stand in the meanings, as in the rules of the commands. -/
def check (w : Word) (st : SeqState) : Except ErrCode Instr :=
  if st = .halted then .error .illegalState
  else
    match decode w with
    | .rejected .illegalOpcode => .error .illegalOpcode
    | .rejected .reservedBits => .error .reservedBits
    | .command i => if legalIn i st then .ok i else .error .illegalState

/-- The acceptance of command word `w` (10_state.md R38): the word and ARG are latched and BUSY is set; the checks are
applied, and a sequence that passes them enters its transient state (R170, R283). -/
def accept (w : Word) (s : State) : State :=
  match check w s.seqState with
  | .error e => { s with cwCur := w, argCur := s.arg, pos := .reject e }
  | .ok i => { s with cwCur := w, argCur := s.arg, pos := .start, seqState := enteredState i s.seqState }

/-- What every command does at the positions that are not its own: with no command running, `i` is accepted; at
`reject` the pending error completes (R282); any other position belongs to another command
(notes/assumptions/9, 11). -/
def offSequence (i : Instr) (s : State) : StepResult :=
  match s.pos with
  | .idle => .next (accept (encode i) s)
  | .reject e => .next (raise e s)
  | _ => .fault .sequencerDesync

end Sys2Proof.Machine
end

