-- ==== Sys2Proof/Machine/Accumulators.lean ====
section
/-! DEFINITION. The RDS accumulators: the segment write AccWrite (43_rds_decoder.md R229) and the reset
ResetAccumulators (R230). -/

namespace Sys2Proof.Machine

/-- Writes received characters into successive slots from slot `k` on (R229). -/
def fillSlots {w : Nat} (slots : Vector Slot w) (k : Nat) : List Byte → Vector Slot w
  | [] => slots
  | c :: cs => fillSlots (slots.setIfInBounds k ⟨true, c⟩) (k + 1) cs

/-- Puts segment `seg` into a buffer and marks it received (R229). The number of characters is n(acc) of R43. -/
def TextBuf.put {w segs : Nat} (t : TextBuf w segs) (seg : Nat) (chars : List Byte) : TextBuf w segs :=
  { slots := fillSlots t.slots (seg * chars.length) chars, recv := t.recv ||| (1 <<< seg) }

/-- `AccWrite` on one accumulator (R229): a flag transition clears the buffer about to receive, and only that one. -/
def Accum.write {w segs : Nat} (a : Accum w segs) (flag : BufId) (seg : Nat) (chars : List Byte) : Accum w segs :=
  if flag = a.cur then a.setBuf flag ((a.buf flag).put seg chars)
  else { a.setBuf flag ((TextBuf.empty w segs).put seg chars) with cur := flag }

/-- `AccWrite(acc, flag, seg, chars)`, one atomic step (R229). -/
def accWrite (acc : AccId) (flag : BufId) (seg : Nat) (chars : List Byte) (s : State) : State :=
  match acc with
  | .ps => { s with acc := { s.acc with ps := s.acc.ps.write flag seg chars } }
  | .rt => { s with acc := { s.acc with rt := s.acc.rt.write flag seg chars } }
  | .paging => { s with acc := { s.acc with paging := s.acc.paging.write flag seg chars } }
  | .ptyn => { s with acc := { s.acc with ptyn := s.acc.ptyn.write flag seg chars } }

/-- `ResetAccumulators()`, one atomic step (R230): every slot the sentinel, every marker and flag 0, the identity
invalid and 0. -/
def resetAccumulators (s : State) : State := { s with acc := .empty, ident := .empty }

end Sys2Proof.Machine
end

