-- ==== Sys2Proof/Machine/Fields.lean ====
section
/-! DEFINITION. The field commands (41_field_decoder.md R151 to R153). -/

namespace Sys2Proof.Machine

/-- FIELD_GET (R151): a fresh field is read from the device first, in a step of its own. -/
def execFieldGet (fid : BitVec 6) (s : State) : StepResult :=
  match s.pos with
  | .start =>
    .next (if !knownFid fid then raise .badIndex s
      else if freshFid fid then readAll (goto .fieldRead) s
      else if !s.shadowValid then raise .notSynced s
      else completeWith (fieldValue fid (s.reg (fieldRow fid).reg)) s)
  | .fieldRead => .next (completeWith (fieldValue fid (s.reg (fieldRow fid).reg)) s)
  | _ => offSequence (.fieldGet fid) s

/-- FIELD_SET (R152): index, value and shadow checks in that order, then the field is staged in the shadow. -/
def execFieldSet (fid : BitVec 6) (s : State) : StepResult :=
  match s.pos with
  | .start =>
    .next (if !writableFid fid then raise .badIndex s
      else if 2 ^ (fieldRow fid).width ≤ s.argCur.toNat then raise .badValue s
      else if !s.shadowValid then raise .notSynced s
      else complete .ok (s.setField (fieldRow fid) s.argCur))
  | _ => offSequence (.fieldSet fid) s

/-- FIELD_EXTRACT (R153): the pure Field Decoder applied to ARG; it needs no shadow. -/
def execFieldExtract (fid : BitVec 6) (s : State) : StepResult :=
  match s.pos with
  | .start => .next (if !knownFid fid then raise .badIndex s else completeWith (fieldValue fid s.argCur) s)
  | _ => offSequence (.fieldExtract fid) s

end Sys2Proof.Machine
end

