-- ==== Sys2Proof/Machine/RdsGroups.lean ====
section
/-! DEFINITION. The RDS group decoder (43_rds_decoder.md): block layouts (R214 to R216), identity (R217), the dispatch
over the 32 classes (R212, R218) and the rule of each implemented class (R219 to R228) with the calendar (R226,
R227). The layouts are the RDS standard's, as the spec takes them (notes/assumptions/17). -/

namespace Sys2Proof.Machine

/-- The two characters of a block, high byte first (R215, R216). -/
def chars2 (w : Word) : List Byte := [w.extractLsb 15 8, w.extractLsb 7 0]

/-- Identity extraction, done for every decoded group (R214, R217). -/
def extractIdentity (a b : Word) (s : State) : State :=
  { s with ident := { valid := true, pi := a, pty := b.extractLsb 9 5, tp := b.extractLsb 10 10 } }

/-- An alternate-frequency byte in tenths of MHz: `value + 875` for every byte (R219). -/
def afFreq (v : Byte) : Word := v.setWidth 16 + 875

/-- Group 0A, basic tuning and switching (R215, R219). PS is always written with flag 0 (90_conflicts.md C3, D25). -/
def group0A (b c d : Word) (s : State) : State :=
  emit (.grp0a (b.extractLsb 1 0) (b.extractLsb 4 4) (b.extractLsb 3 3) (b.extractLsb 2 2)
      (afFreq (c.extractLsb 15 8)) (afFreq (c.extractLsb 7 0)) (d.extractLsb 15 8) (d.extractLsb 7 0))
    (accWrite .ps .a (b.extractLsb 1 0).toNat (chars2 d) s)

/-- `SlTag(v)` (R220; notes/assumptions/18). -/
def slTag (v : BitVec 3) : SlTag :=
  match v.toNat with
  | 0 => .country
  | 1 => .tmc
  | 2 => .paging
  | 3 => .language
  | 6 => .broadcaster
  | 7 => .ews
  | _ => .reserved

/-- The slow-labelling part of group 1A (R215, R220). -/
def slowLabel (c : Word) : SlowLabel :=
  { la := c.extractLsb 15 15, variant := c.extractLsb 14 12, data := c.extractLsb 11 0, tag := slTag (c.extractLsb 14 12) }

/-- Groups 1A and 1B, programme item number and slow labelling (R215, R220); nothing is range-checked. -/
def group1 (b c d : Word) (s : State) : State :=
  emit (.grp1 (b.extractLsb 11 11) (d.extractLsb 15 11) (d.extractLsb 10 6) (d.extractLsb 5 0)
    (if b.extractLsb 11 11 = 0 then some (slowLabel c) else none)) s

/-- Group 2A, radio text (R215, R221). -/
def group2A (b c d : Word) (s : State) : State :=
  accWrite .rt (bufOfBit (b.extractLsb 4 4)) (b.extractLsb 3 0).toNat (chars2 c ++ chars2 d) s

/-- Group 3A, open-data application identification (R215, R222). -/
def group3A (b c d : Word) (s : State) : State := emit (.grp3a (b.extractLsb 4 0) c d) s

/-- Group 7A, radio paging (R216, R223). -/
def group7A (b c d : Word) (s : State) : State :=
  accWrite .paging (bufOfBit (b.extractLsb 4 4)) (b.extractLsb 3 0).toNat (chars2 c ++ chars2 d) s

/-- Group 10A, programme-type name (R216, R224); B[3:1] is ignored. -/
def group10A (b c d : Word) (s : State) : State :=
  accWrite .ptyn (bufOfBit (b.extractLsb 4 4)) (b.extractLsb 0 0).toNat (chars2 c ++ chars2 d) s

/-- `EonTag(v)` (R225; notes/assumptions/18). -/
def eonTag (v : BitVec 4) : EonTag :=
  match v.toNat with
  | 0 | 1 | 2 | 3 => .psFragment
  | 4 => .afPair
  | 5 | 6 | 7 | 8 | 9 => .mappedFreq
  | 12 => .linkage
  | 13 => .ptyTa
  | 14 => .pin
  | _ => .reserved

/-- Group 14A, enhanced other networks (R216, R225); nothing is accumulated. -/
def group14A (b c d : Word) (s : State) : State :=
  emit (.grp14a (b.extractLsb 4 4) (b.extractLsb 3 0) c d (eonTag (b.extractLsb 3 0))) s

/-- A converted date (R226): the weekday is 0 = Monday to 6 = Sunday (D45). -/
structure Date where
  year : Int
  month : Int
  day : Int
  weekday : Int
deriving DecidableEq, Repr

/-- `MjdToDate(M)` (R226). The spec's `div` and `mod` are floor division and the non-negative remainder; for the
positive divisors that stand here Lean's `/` and `%` on Int are these. -/
def mjdToDate (m : Int) : Date :=
  let y := (100 * m - 1507820) / 36525
  let fy := y * 36525 / 100
  let mp := (10000 * m - 149561000 - 10000 * fy) / 306001
  let d := m - 14956 - fy - mp * 306001 / 10000
  let wrap := mp = 14 ∨ mp = 15
  { year := (if wrap then y + 1 else y) + 1900
    month := if wrap then mp - 1 - 12 else mp - 1
    day := d
    weekday := (m + 2) % 7 }

/-- `DateOk(year, month, day)`, the date guard (R227). -/
def dateOk (year month day : Int) : Bool :=
  decide (2000 ≤ year ∧ year ≤ 2099 ∧ 1 ≤ month ∧ month ≤ 12 ∧ 1 ≤ day ∧ day ≤ 31)

/-- The 17-bit Modified Julian Day `{B[1:0], C[15:1]}` of group 4A (R216, R228). -/
def mjdOf (b c : Word) : BitVec 17 := b.extractLsb 1 0 ++ c.extractLsb 15 1

/-- The UTC hour `{C[0], D[15:12]}` of group 4A (R216, R228). -/
def utcHour (c d : Word) : BitVec 5 := c.extractLsb 0 0 ++ d.extractLsb 15 12

/-- The signed local-time offset of group 4A in half-hours: D[5] = 1 is negative (R216, R228, D36). -/
def localOffset (d : Word) : Int :=
  if d.extractLsb 5 5 = 1 then -((d.extractLsb 4 0).toNat : Int) else ((d.extractLsb 4 0).toNat : Int)

/-- The CLOCK event of a converted date with the UTC time and the offset of group 4A (R228, R231). -/
def clockEvent (date : Date) (c d : Word) : Event :=
  .clock (BitVec.ofInt 16 date.year) (BitVec.ofInt 4 date.month) (BitVec.ofInt 5 date.day)
    (BitVec.ofInt 3 date.weekday) (utcHour c d) (d.extractLsb 11 6) (localOffset d)

/-- The hand-off of a converted date, when the date guard passes; else nothing (R227, R228). -/
def emitClock (date : Date) (c d : Word) (s : State) : State :=
  if dateOk date.year date.month date.day then emit (clockEvent date c d) s else s

/-- Group 4A, clock time and date (R228). -/
def group4A (b c d : Word) (s : State) : State := emitClock (mjdToDate (mjdOf b c).toNat) c d s

/-- An unrecognized group: the UNREC event (R218). -/
def groupUnrec (a b c d : Word) (s : State) : State :=
  emit (.unrec (b.extractLsb 15 12) (b.extractLsb 11 11) a b c d) s

/-- The rule of the group's class `(GTYPE, GVER)` (30_encoding.md R98, 43_rds_decoder.md R212, 90_conflicts.md C2). -/
def dispatchGroup (a b c d : Word) (s : State) : State :=
  match (b.extractLsb 15 12).toNat, verOfBit (b.extractLsb 11 11) with
  | 0, .a => group0A b c d s
  | 1, _ => group1 b c d s
  | 2, .a => group2A b c d s
  | 3, .a => group3A b c d s
  | 4, .a => group4A b c d s
  | 7, .a => group7A b c d s
  | 10, .a => group10A b c d s
  | 14, .a => group14A b c d s
  | _, _ => groupUnrec a b c d s

/-- `Decode(A, B, C, D)`, one step (R213): the identity, then the rule of the class. -/
def decodeBlocks (a b c d : Word) (s : State) : State := dispatchGroup a b c d (extractIdentity a b s)

end Sys2Proof.Machine
end

