-- ==== Sys2Proof/Machine/Rds.lean ====
section
/-! DEFINITION. The RDS commands (43_rds_decoder.md): the fetch cycle (R210), RDS_DECODE, RDS_CAPTURE and RDS_RESET
(R240 to R242), and the reads of accumulators and identity (R243 to R246). -/

namespace Sys2Proof.Machine

/-! ## The fetch cycle -/

/-- The tests after a poll read of FetchGroup (R210): RDSR = 1 ends it with a group, the deadline without one; no
error-rate or sync field is tested (R211). The group is x[0x0C] to x[0x0F] of this read. -/
def fetchTest (group none : State → State) (s : State) : State :=
  if s.rdsr then group s else deadline s.t0 s.env.params.tRdsMs none (goto .fetchDelay) s

/-- One poll read of FetchGroup (R210). -/
def fetchPollStep (group none : State → State) (s : State) : State := readAll (fetchTest group none) s

/-- FetchGroup from its beginning: `t0 <- Now()`, then the first poll read (R210). -/
def fetchStart (group none : State → State) (s : State) : State := fetchPollStep group none (sampleT0 s)

/-- The delay between two polls of FetchGroup (R210). -/
def fetchDelayStep (s : State) : State := goto .fetchPoll (delay s.env.params.tRdsPollMs s)

/-! ## RDS_DECODE -/

/-- What RDS_DECODE does with a group in the shadow: its decode is the next step (R213, R240). -/
def decodeNext (s : State) : State := goto .decodeGroup s

/-- What RDS_DECODE does when the fetch times out (R240). -/
def decodeTimeout (s : State) : State := goto (.finish .hwTimeout) s

/-- The decode of the group in the shadow (R210, R213): block A is x[0x0C], D is x[0x0F]. -/
def decodeStep (s : State) : State := decodeBlocks (s.reg 0xC) (s.reg 0xD) (s.reg 0xE) (s.reg 0xF) s

/-- RDS_DECODE (R240): at most one group per command. -/
def execRdsDecode (s : State) : StepResult :=
  match s.pos with
  | .start => .next (fetchStart decodeNext decodeTimeout s)
  | .fetchPoll => .next (fetchPollStep decodeNext decodeTimeout s)
  | .fetchDelay => .next (fetchDelayStep s)
  | .decodeGroup => .next (goto (.finish .ok) (decodeStep s))
  | .finish o => .next (completeIn .ready o s)
  | _ => offSequence .rdsDecode s

/-! ## RDS_CAPTURE -/

/-- The filter of RDS_CAPTURE on block B (R241): off, or type and version equal. -/
def captureMatches (fen : Bool) (gt : BitVec 4) (gv : GroupVer) (b : Word) : Bool :=
  !fen || (decide (b.extractLsb 15 12 = gt) && decide (b.extractLsb 11 11 = verBit gv))

/-- What RDS_CAPTURE does with a fetched group: its RAW event if it matches, then the delay (R241, D47). -/
def captureGroup (fen : Bool) (gt : BitVec 4) (gv : GroupVer) (s : State) : State :=
  if captureMatches fen gt gv (s.reg 0xD) then goto .captureEmit s else goto .captureDelay s

/-- What RDS_CAPTURE does when a fetch cycle times out: the deadline test again (R241). -/
def captureNone (s : State) : State := goto .captureTest s

/-- The deadline test of RDS_CAPTURE and what follows it: the completion, or the first read of a fetch cycle (R241). -/
def captureTestStep (fen : Bool) (gt : BitVec 4) (gv : GroupVer) (s : State) : State :=
  deadline s.tc (s.argCur.toNat * s.env.params.captureUnitMs) (completeIn .ready .ok)
    (fetchStart (captureGroup fen gt gv) captureNone) s

/-- The RAW event of the group in the shadow (R231, R241). -/
def captureEmitStep (s : State) : State :=
  goto .captureDelay (emit (.raw (s.reg 0xC) (s.reg 0xD) (s.reg 0xE) (s.reg 0xF)) s)

/-- RDS_CAPTURE (R241): raw capture; identity and accumulators are not touched. -/
def execRdsCapture (fen : Bool) (gt : BitVec 4) (gv : GroupVer) (s : State) : StepResult :=
  match s.pos with
  | .start => .next (captureTestStep fen gt gv (sampleTc s))
  | .captureTest => .next (captureTestStep fen gt gv s)
  | .fetchPoll => .next (fetchPollStep (captureGroup fen gt gv) captureNone s)
  | .fetchDelay => .next (fetchDelayStep s)
  | .captureEmit => .next (captureEmitStep s)
  | .captureDelay => .next (goto .captureTest (delay s.env.params.tRdsPollMs s))
  | _ => offSequence (.rdsCapture fen gt gv) s

/-! ## RDS_RESET and the reads -/

/-- RDS_RESET (R242). -/
def execRdsReset (s : State) : StepResult :=
  match s.pos with
  | .start => .next (complete .ok (resetAccumulators s))
  | _ => offSequence .rdsReset s

/-- `zext16(s << 8 | ch)`, the word ACC_RD gives for a slot (R243). -/
def Slot.word (t : Slot) : Word := (BitVec.ofBool t.set).setWidth 16 <<< 8 ||| t.ch.setWidth 16

/-- ACC_RD (R243). -/
def execAccRd (acc : AccId) (buf : BufId) (slot : BitVec 6) (s : State) : StepResult :=
  match s.pos with
  | .start =>
    .next (if accWidth acc ≤ slot.toNat then raise .badIndex s else completeWith (s.slotOf acc buf slot.toNat).word s)
  | _ => offSequence (.accRd acc buf slot) s

/-- ACC_RECV (R244). -/
def execAccRecv (acc : AccId) (buf : BufId) (s : State) : StepResult :=
  match s.pos with
  | .start => .next (completeWith (s.recvOf acc buf) s)
  | _ => offSequence (.accRecv acc buf) s

/-- ACC_CUR (R245). -/
def execAccCur (acc : AccId) (s : State) : StepResult :=
  match s.pos with
  | .start => .next (completeWith ((bufBit (s.curFlagOf acc)).setWidth 16) s)
  | _ => offSequence (.accCur acc) s

/-- `id_valid << 15 | tp << 5 | pty`, the INFO word (R246). -/
def Identity.info (d : Identity) : Word :=
  (BitVec.ofBool d.valid).setWidth 16 <<< 15 ||| d.tp.setWidth 16 <<< 5 ||| d.pty.setWidth 16

/-- ID_RD (R246). -/
def execIdRd (sel : IdSel) (s : State) : StepResult :=
  match s.pos with
  | .start =>
    .next (completeWith (match sel with | .pi => s.ident.pi | .info => s.ident.info) s)
  | _ => offSequence (.idRd sel) s

end Sys2Proof.Machine
end

