-- ==== Sys2Proof/Machine/Transactions.lean ====
section
/-! DEFINITION. The register transaction commands (40_transactions.md R120 to R124). One call is one observable step
(00_scope.md R10; notes/assumptions/1); at `start` the common checks (1) to (4) of 60_exceptions.md R283 have passed. -/

namespace Sys2Proof.Machine

/-- NOP (R120). -/
def execNop (s : State) : StepResult :=
  match s.pos with
  | .start => .next (complete .ok s)
  | _ => offSequence .nop s

/-- READ_ALL (R121): the read, then the completion. -/
def execReadAll (s : State) : StepResult :=
  match s.pos with
  | .start => .next (readAll (goto (.finish .ok)) s)
  | .finish o => .next (complete o s)
  | _ => offSequence .readAll s

/-- WRITE_CFG (R122): the shadow check, the write, then the completion. -/
def execWriteCfg (s : State) : StepResult :=
  match s.pos with
  | .start => .next (if s.shadowValid then writeCfg (goto (.finish .ok)) s else raise .notSynced s)
  | .finish o => .next (complete o s)
  | _ => offSequence .writeCfg s

/-- SHADOW_RD (R123). -/
def execShadowRd (idx : BitVec 4) (s : State) : StepResult :=
  match s.pos with
  | .start => .next (if s.shadowValid then completeWith (s.reg idx) s else raise .notSynced s)
  | _ => offSequence (.shadowRd idx) s

/-- SHADOW_WR (R124): the index check stands before the shadow check. -/
def execShadowWr (idx : BitVec 4) (s : State) : StepResult :=
  match s.pos with
  | .start =>
    .next (if !writableIndex idx then raise .badIndex s
      else if !s.shadowValid then raise .notSynced s
      else complete .ok (s.setReg idx s.argCur))
  | _ => offSequence (.shadowWr idx) s

end Sys2Proof.Machine
end

