-- ==== Sys2Proof/Machine/Tuning.lean ====
section
/-! DEFINITION. The tuning and seek sequencer (42_tuning_fsm.md): the shared parts TuneSeq (R175), SeekPoll (R176) and
the trigger-clear exit (R179), and the commands POWER_UP, POWER_DOWN, SEEK and TUNE (R171 to R174). A sequence has
entered its transient state on acceptance (R170). -/

namespace Sys2Proof.Machine

/-! ## TuneSeq -/

/-- TuneSeq up to its trigger write (R175): CHAN and TUNE are staged and written, `i <- 0`. -/
def tuneTriggerStep (f : Word) (s : State) : State :=
  writeCfg (fun s => { s with polls := 0, pos := .tunePoll })
    ((s.setField Field.chan (BitVec.ofNat 16 (freqToChan f))).setField Field.tune 1)

/-- The exit tests after a poll read of TuneSeq (R175): STC or SFBL, or the last poll, ends the loop with the
classification of the status read (R178). -/
def tuneTest (s : State) : State :=
  if s.stc ∨ s.sfbl ∨ s.polls + 1 = s.env.params.nTunePolls then { s with polls := s.polls + 1, pos := .tuneExit s.pollOutcome }
  else { s with polls := s.polls + 1, pos := .tuneDelay }

/-- One poll read of TuneSeq (R175). -/
def tunePollStep (s : State) : State := readAll tuneTest s

/-- The delay between two polls of TuneSeq (R175). -/
def tuneDelayStep (s : State) : State := goto .tunePoll (delay s.env.params.tTunePollMs s)

/-- The trigger-clear write of TuneSeq (R175, R179). -/
def tuneExitStep (o : OutcomeCode) (s : State) : State := writeCfg (goto (.exitDone o)) (s.setField Field.tune 0)

/-- The end of SEEK, TUNE and POWER_UP: the accumulator reset, `STATE <- READY` and the completion (R171, R173, R174). -/
def exitDoneStep (o : OutcomeCode) (s : State) : State := completeIn .ready o (resetAccumulators s)

/-! ## SeekPoll -/

/-- The exit tests after a poll read of SeekPoll (R176): STC, then the deadline. SFBL alone does not end the loop. -/
def seekTest (s : State) : State :=
  if s.stc then goto (.seekExit s.pollOutcome) s
  else deadline s.t0 s.env.params.tSeekMs (goto (.seekExit s.pollOutcome)) (goto .seekDelay) s

/-- One poll read of SeekPoll (R176). -/
def seekPollStep (s : State) : State := readAll seekTest s

/-- The delay between two polls of SeekPoll (R176). -/
def seekDelayStep (s : State) : State := goto .seekPoll (delay s.env.params.tSeekPollMs s)

/-- The trigger-clear write of SEEK (R173, R179). -/
def seekExitStep (o : OutcomeCode) (s : State) : State := writeCfg (goto (.exitDone o)) (s.setField Field.seek 0)

/-! ## POWER_UP -/

/-- The power-up defaults staged before the second write (R171, D20, D21). -/
def stagePowerUp (s : State) : State :=
  let p := s.env.params
  (((((((((s.setField Field.dmute 1).setField Field.rds 1).setField Field.de (p.deDefault.setWidth 16)).setField
    Field.space (p.spaceDefault.setWidth 16)).setField Field.seekth (p.seekthDefault.setWidth 16)).setField
    Field.sksnr (p.sksnrDefault.setWidth 16)).setField Field.skcnt (p.skcntDefault.setWidth 16)).setField
    Field.enable 1).setField Field.disable 0)

/-- POWER_UP (R171). -/
def execPowerUp (s : State) : StepResult :=
  match s.pos with
  | .start => .next (readAll (goto .xoscWrite) s)
  | .xoscWrite => .next (writeCfg (goto .xoscDelay) (s.setField Field.xoscen 1))
  | .xoscDelay => .next (goto .configWrite (delay s.env.params.tXoscMs s))
  | .configWrite => .next (writeCfg (goto .powerUpDelay) (stagePowerUp s))
  | .powerUpDelay => .next (goto .tuneTrigger (delay s.env.params.tPwrupMs s))
  | .tuneTrigger => .next (tuneTriggerStep s.env.params.defaultFreq s)
  | .tunePoll => .next (tunePollStep s)
  | .tuneDelay => .next (tuneDelayStep s)
  | .tuneExit o => .next (tuneExitStep o s)
  | .exitDone o => .next (exitDoneStep o s)
  | _ => offSequence .powerUp s

/-! ## POWER_DOWN -/

/-- The fields POWER_DOWN stages before its write (R172, D22): ENABLE and DISABLE are both set. -/
def stagePowerDown (s : State) : State :=
  ((((((s.setField Field.ahizen 1).setField Field.gpio1 0).setField Field.gpio2 0).setField Field.gpio3 0).setField
    Field.dmute 0).setField Field.enable 1).setField Field.disable 1

/-- POWER_DOWN (R172). -/
def execPowerDown (s : State) : StepResult :=
  match s.pos with
  | .start => .next (writeCfg (goto .powerDownDelay) (stagePowerDown s))
  | .powerDownDelay => .next (goto (.finish .ok) (delay s.env.params.tPwrdnMs s))
  | .finish o => .next (completeIn .poweredDown o s)
  | _ => offSequence .powerDown s

/-! ## SEEK and TUNE -/

/-- The fields SEEK stages before its trigger write (R173): MODE and UP are copied without interpretation. -/
def stageSeek (mode up : BitVec 1) (s : State) : State :=
  ((s.setField Field.skmode (mode.setWidth 16)).setField Field.seekup (up.setWidth 16)).setField Field.seek 1

/-- SEEK (R173). `t0` is sampled right after the trigger write (D17). -/
def execSeek (mode up : BitVec 1) (s : State) : StepResult :=
  match s.pos with
  | .start => .next (writeCfg (fun s => goto .seekPoll (sampleT0 s)) (stageSeek mode up s))
  | .seekPoll => .next (seekPollStep s)
  | .seekDelay => .next (seekDelayStep s)
  | .seekExit o => .next (seekExitStep o s)
  | .exitDone o => .next (exitDoneStep o s)
  | _ => offSequence (.seek mode up) s

/-- TUNE (R174): every ARG is clamped, none is an error. -/
def execTune (s : State) : StepResult :=
  match s.pos with
  | .start => .next (tuneTriggerStep s.argCur s)
  | .tunePoll => .next (tunePollStep s)
  | .tuneDelay => .next (tuneDelayStep s)
  | .tuneExit o => .next (tuneExitStep o s)
  | .exitDone o => .next (exitDoneStep o s)
  | _ => offSequence .tune s

end Sys2Proof.Machine
end

