-- ==== Sys2Proof/Machine/Dispatch.lean ====
section
/-! DEFINITION. The meaning of each command: one arm per constructor of Instr. -/

namespace Sys2Proof.Machine

def exec (i : Instr) (s : State) : Host.Outcome State Fault Refusal :=
  match i with
  | .nop => Sys2Proof.Machine.execNop s
  | .readAll => Sys2Proof.Machine.execReadAll s
  | .writeCfg => Sys2Proof.Machine.execWriteCfg s
  | .shadowRd idx => Sys2Proof.Machine.execShadowRd idx s
  | .shadowWr idx => Sys2Proof.Machine.execShadowWr idx s
  | .fieldGet fid => Sys2Proof.Machine.execFieldGet fid s
  | .fieldSet fid => Sys2Proof.Machine.execFieldSet fid s
  | .fieldExtract fid => Sys2Proof.Machine.execFieldExtract fid s
  | .powerUp => Sys2Proof.Machine.execPowerUp s
  | .powerDown => Sys2Proof.Machine.execPowerDown s
  | .seek mode up => Sys2Proof.Machine.execSeek mode up s
  | .tune => Sys2Proof.Machine.execTune s
  | .rdsDecode => Sys2Proof.Machine.execRdsDecode s
  | .rdsCapture fen gt gv => Sys2Proof.Machine.execRdsCapture fen gt gv s
  | .rdsReset => Sys2Proof.Machine.execRdsReset s
  | .accRd acc buf slot => Sys2Proof.Machine.execAccRd acc buf slot s
  | .accRecv acc buf => Sys2Proof.Machine.execAccRecv acc buf s
  | .accCur acc => Sys2Proof.Machine.execAccCur acc s
  | .idRd sel => Sys2Proof.Machine.execIdRd sel s

end Sys2Proof.Machine
end

