-- ==== Sys2Proof/Machine/HostPort.lean ====
section
/-! DEFINITION. The host's side: the host port (10_state.md R36 to R41, D2), the block reset `rst` (70_reset_and_hazards.md
R310), and one step of the block on its latched command. -/

namespace Sys2Proof.Machine

/-- A host read of a word offset: CMD, ARG, RESULT, STAT, ERRCMD; 5 to 7 read 0x0000 (D2). It has no side effect on
the block (20_memory.md R69). -/
def hostRead (off : BitVec 3) (s : State) : Word :=
  match off.toNat with
  | 0 => s.cwCur
  | 1 => s.arg
  | 2 => s.result
  | 3 => s.stat
  | 4 => s.errCmd
  | _ => 0

/-- A host write of CMD (10_state.md R38): with BUSY = 0 the command is accepted, with BUSY = 1 the word is discarded
and DROPPED is set. -/
def writeCmd (w : Word) (s : State) : State := if s.busy then { s with dropped := true } else accept w s

/-- A host write of a word offset: CMD and ARG take it, the others ignore it (D2, R39). -/
def hostWrite (off : BitVec 3) (v : Word) (s : State) : State :=
  match off.toNat with
  | 0 => writeCmd v s
  | 1 => { s with arg := v }
  | _ => s

/-- The block reset `rst` (R310): everything of the block at its reset value; the tuner, the time base and the host are
not reset (R311). -/
def applyRst (s : State) : State := { State.reset with env := s.env }

/-- One step of the block (00_scope.md R10): the next observable step of its latched command. A command word that
names no command can only complete with its error (30_encoding.md R94, R95). With no command the block idles
(70_reset_and_hazards.md R310, 60_exceptions.md R287, R296). -/
def blockStep (s : State) : StepResult :=
  if s.busy then
    match decode s.cwCur with
    | .command i => exec i s
    | .rejected _ =>
      match s.pos with
      | .reject e => .next (raise e s)
      | _ => .fault .sequencerDesync
  else .next s

/-- What happens at one step boundary: the block takes its step, or the host acts (60_exceptions.md R289, R298). -/
def actStep (a : HostAct) (s : State) : StepResult :=
  match a with
  | .turn => blockStep s
  | .write off v => .next (hostWrite off v s)
  | .read off => .next { s with env := { s.env with hostReads := s.env.hostReads ++ [hostRead off s] } }
  | .rst => .next (applyRst s)

/-- The state with the first entry of the host's agenda taken off. -/
def popAgenda (s : State) : State := { s with env := { s.env with agenda := s.env.agenda.tail } }

/-- The state in which command word `w` is latched as the running command and the host does nothing meanwhile: what
the host's write of CMD leaves when no command runs (R38). -/
def latchCommand (w : Word) (s : State) : State := accept w { s with pos := .idle, env := { s.env with agenda := [] } }

end Sys2Proof.Machine
end

