-- ==== Sys2Proof/Machine/Step.lean ====
section
/-! DEFINITION. The step: what the head of the host's agenda says, or the block's own step when the agenda is empty
(00_scope.md R10; notes/assumptions/1, 4). -/

namespace Sys2Proof.Machine

/-- One step of the machine. -/
def step (s : State) : Host.Outcome State Fault Refusal :=
  match s.env.agenda with
  | [] => blockStep s
  | a :: _ => actStep a (popAgenda s)

/-- `s` with the table row's word accepted as the running command, so that the next step runs it (10_state.md R37,
R38; the block has no program counter, R34). -/
def State.withFetchWord (s : State) (nbits w : Nat) : State := latchCommand (BitVec.ofNat 16 (w % 2 ^ nbits)) s

end Sys2Proof.Machine
end

