-- ==== Sys2Proof/WellFormed.lean ====
section
/-! DEFINITION. When the operand fields of a command name something (30_encoding.md R96, 60_exceptions.md R283 check
(5)). Every term of `Instr` has an encoding; one that is not well-formed is encodable and completes with
`E_BAD_INDEX` when it runs. -/

namespace Sys2Proof

/-- The index fields of the command name something usable (R96). `true` for a command without index fields, and for
ACC, BUF and SEL, which "have no unused values". -/
def Instr.wellFormed : Instr → Bool
  | .nop | .readAll | .writeCfg | .powerUp | .powerDown | .tune | .rdsDecode | .rdsReset => true
  | .shadowRd _ => true
  | .shadowWr idx => Machine.writableIndex idx
  | .fieldGet fid => Machine.knownFid fid
  | .fieldSet fid => Machine.writableFid fid
  | .fieldExtract fid => Machine.knownFid fid
  | .seek _ _ => true
  | .rdsCapture _ _ _ => true
  | .accRd acc _ slot => decide (slot.toNat < Machine.accWidth acc)
  | .accRecv _ _ => true
  | .accCur _ => true
  | .idRd _ => true

end Sys2Proof
end

