-- ==== Sys2Proof/Safety.lean ====
section
/-! DEFINITION. What a sound state of the block is (the invariants of spec/10_state.md R35, R36, R48, R49 and
43_rds_decoder.md R232), and the run of one command, in the terms the statements use. -/

namespace Sys2Proof.Machine

/-! ## Sound states -/

/-- The outcomes a poll loop can end with (42_tuning_fsm.md R178). -/
def isPollOutcome (o : OutcomeCode) : Bool :=
  match o with
  | .ok | .notFound | .hwTimeout => true
  | .none | .err _ => false

/-- The sequence positions TuneSeq takes (R175) and the outcomes it carries. -/
def tuneSeqPosition : SeqPos → Bool
  | .tunePoll | .tuneDelay => true
  | .tuneExit o | .exitDone o => isPollOutcome o
  | _ => false

/-- The sequence positions a command takes once it has performed a step (R48). -/
def ownPosition (i : Instr) (p : SeqPos) : Bool :=
  match i with
  | .readAll | .writeCfg => decide (p = .finish .ok)
  | .fieldGet _ => decide (p = .fieldRead)
  | .powerUp =>
    decide (p = .xoscWrite ∨ p = .xoscDelay ∨ p = .configWrite ∨ p = .powerUpDelay ∨ p = .tuneTrigger) ||
      tuneSeqPosition p
  | .powerDown => decide (p = .powerDownDelay ∨ p = .finish .ok)
  | .seek _ _ =>
    match p with
    | .seekPoll | .seekDelay => true
    | .seekExit o | .exitDone o => isPollOutcome o
    | _ => false
  | .tune => tuneSeqPosition p
  | .rdsDecode =>
    decide (p = .fetchPoll ∨ p = .fetchDelay ∨ p = .decodeGroup ∨ p = .finish .ok ∨ p = .finish .hwTimeout)
  | .rdsCapture _ _ _ =>
    decide (p = .fetchPoll ∨ p = .fetchDelay ∨ p = .captureTest ∨ p = .captureEmit ∨ p = .captureDelay)
  | .nop | .shadowRd _ | .shadowWr _ | .fieldSet _ | .fieldExtract _ | .rdsReset | .accRd _ _ _ | .accRecv _ _
  | .accCur _ | .idRd _ => false

/-- The `STATE` a running command is in (10_state.md R35, 42_tuning_fsm.md R170). -/
def runsIn (i : Instr) (st : SeqState) : Bool :=
  match i with
  | .powerUp => decide (st = .poweringUp)
  | .powerDown => decide (st = .poweringDown)
  | .seek _ _ => decide (st = .seeking)
  | .tune => decide (st = .tuning)
  | .rdsDecode | .rdsCapture _ _ _ => decide (st = .rdsFetch)
  | .nop | .readAll | .writeCfg | .shadowRd _ | .shadowWr _ | .fieldGet _ | .fieldSet _ | .fieldExtract _ | .rdsReset
  | .accRd _ _ _ | .accRecv _ _ | .accCur _ | .idRd _ => decide (st = .poweredDown ∨ st = .ready)

/-- The sequence position fits the latched command word and `STATE`: with no command running, or with a rejected
one, `STATE` is stable (60_exceptions.md R283); else the word decodes, the position is its command's, and `STATE` is
the one the command runs in. -/
def State.sequenceOk (s : State) : Bool :=
  match s.pos with
  | .idle => s.seqState.stable
  | .reject e => s.seqState.stable && decide (check s.cwCur s.seqState = .error e)
  | p =>
    match decode s.cwCur with
    | .command i => (decide (p = .start) || ownPosition i p) && runsIn i s.seqState
    | .rejected _ => false

/-- R49, with what it needs inside a running POWER_UP: once its first read is done the shadow is valid. -/
def State.shadowOk (s : State) : Bool :=
  match s.seqState with
  | .ready | .seeking | .tuning | .poweringDown | .rdsFetch => s.shadowValid
  | .poweringUp => s.shadowValid || decide (s.pos = .start)
  | .poweredDown | .halted => true

/-- `STAT.BUSERR` is 1 exactly in HALTED (60_exceptions.md R286, R287). -/
def State.haltOk (s : State) : Bool := decide (s.busErr = true ↔ s.seqState = .halted)

/-- PS is only ever written with flag 0: its flag is 0 and its buffer B all sentinel (43_rds_decoder.md R232 (5)). -/
def State.psOk (s : State) : Bool := decide (s.acc.ps.cur = .a ∧ s.acc.ps.bufB = TextBuf.empty 8 4)

/-- The hidden loop state (10_state.md R48): the poll counter stays below N_TUNE_POLLS while the tune loop runs
(42_tuning_fsm.md R175; with N_TUNE_POLLS = 0 that loop has no bound to stay below), and the deadline starts are past
`Now()` answers (60_exceptions.md R290). -/
def State.loopOk (s : State) : Bool :=
  (match s.pos with
    | .tunePoll | .tuneDelay => decide (0 < s.env.params.nTunePolls → s.polls < s.env.params.nTunePolls)
    | _ => true) &&
  decide (s.t0 ≤ s.env.nowBound) && decide (s.tc ≤ s.env.nowBound)

/-- A sound state: every state a run from reset can reach, whatever the host, the tuner and the time base do. -/
def State.consistent (s : State) : Bool := s.sequenceOk && s.shadowOk && s.haltOk && s.psOk && s.loopOk

/-! ## The run of one command -/

/-- At most `n` steps of the running command `i`, with the host doing nothing: it stops when the command completes
(or at a fault or refusal). -/
def runCommand (i : Instr) : Nat → State → StepResult
  | 0, s => .next s
  | n + 1, s =>
    if s.busy then
      match exec i s with
      | .next t => runCommand i n t
      | r => r
    else .next s

end Sys2Proof.Machine
end

