-- ==== Sys2Proof/Certificates/Slice0/Obligations.lean ====
section
/-! DEFINITION. The statements for the provers, from the numbered rules of spec/. "An answer of the device" below is
what `Env.peekRead` and `Env.peekWrite` give: the next scripted answer, or a free value that nothing constrains. -/

open Sys2Proof Sys2Proof.Machine

namespace Sys2Proof.Machine

/-- The reserved bits of each opcode's format (30_encoding.md R91), F_N to F_I, by opcode number (R93). -/
def reservedOf : List Word :=
  [0x07FF, 0x07FF, 0x07FF, 0x07F0, 0x07F0, 0x07C0, 0x07C0, 0x07C0, 0x07FF, 0x07FF,
    0x07FC, 0x07FF, 0x07FF, 0x07C0, 0x07FF, 0x00C0, 0x00FF, 0x01FF, 0x07FE]

/-- The 12 bytes of a write: registers 0x02 to 0x07, high byte first (20_memory.md R63, R65). -/
def configBytes (s : State) : List Byte :=
  [ (s.reg 2).extractLsb 15 8, (s.reg 2).extractLsb 7 0, (s.reg 3).extractLsb 15 8, (s.reg 3).extractLsb 7 0,
    (s.reg 4).extractLsb 15 8, (s.reg 4).extractLsb 7 0, (s.reg 5).extractLsb 15 8, (s.reg 5).extractLsb 7 0,
    (s.reg 6).extractLsb 15 8, (s.reg 6).extractLsb 7 0, (s.reg 7).extractLsb 15 8, (s.reg 7).extractLsb 7 0 ]

/-- The bus history after one more successful write of the shadow that `t` holds. -/
def wroteConfig (s t : State) : Prop := t.bus = s.bus ++ [.wr s.env.params.devAddr (configBytes t) .ok]

/-- The bus history after one more read that delivered `b`. -/
def readBytes (s t : State) (b : List Byte) : Prop :=
  t.bus = s.bus ++ [.rd s.env.params.devAddr s.env.params.readCmd 32 (.bytes b)]

/-- The shadow holds the 32-byte stream `b`: its j-th pair in register `(0x0A + j) mod 16` (20_memory.md R62). -/
def holdsStream (t : State) (b : List Byte) : Prop :=
  ∀ j : Nat, j < 16 → t.reg (BitVec.ofNat 4 ((0x0A + j) % 16)) = b.getD (2 * j) 0 ++ b.getD (2 * j + 1) 0

/-- `t` is `s` with one error reported (60_exceptions.md R282). -/
def reports (e : ErrCode) (s t : State) : Prop := t = { s with errCmd := s.cwCur, outcome := .err e, pos := .idle }

/-- What a failed transaction leaves besides the bus history and the shadow (60_exceptions.md R286). -/
def haltedOn (s t : State) : Prop :=
  t.busErr = true ∧ t.seqState = .halted ∧ t.errCmd = s.cwCur ∧ t.outcome = .err .bus ∧ t.pos = .idle ∧
    t.result = s.result ∧ t.shadowValid = s.shadowValid ∧ t.acc = s.acc ∧ t.ident = s.ident ∧ t.events = s.events ∧
    t.dropped = s.dropped

/-- What the sequences leave alone from their first step on: the operands, RESULT, DROPPED, events, ERRCMD and the
agents' own data (42_tuning_fsm.md "Flags written"), while no transaction fails. -/
def keepsHostPort (s t : State) : Prop :=
  t.cwCur = s.cwCur ∧ t.argCur = s.argCur ∧ t.arg = s.arg ∧ t.result = s.result ∧ t.errCmd = s.errCmd ∧
    t.dropped = s.dropped ∧ t.busErr = s.busErr ∧ t.events = s.events ∧ t.env.params = s.env.params ∧
    t.env.agenda = s.env.agenda ∧ t.env.hostReads = s.env.hostReads

/-- The field table of 41_field_decoder.md R140, FID 0 to 47: register, lowest bit and width. -/
def fieldPlaces : List (BitVec 4 × Nat × Nat) :=
  [(0x0, 12, 4), (0x0, 0, 12)] ++
  [(0x1, 10, 6), (0x1, 6, 4), (0x1, 0, 6)] ++
  [(0x2, 15, 1), (0x2, 14, 1), (0x2, 13, 1), (0x2, 11, 1), (0x2, 10, 1), (0x2, 9, 1), (0x2, 8, 1), (0x2, 6, 1),
    (0x2, 0, 1)] ++
  [(0x3, 15, 1), (0x3, 0, 10)] ++
  [(0x4, 15, 1), (0x4, 14, 1), (0x4, 12, 1), (0x4, 11, 1), (0x4, 10, 1), (0x4, 6, 2), (0x4, 4, 2), (0x4, 2, 2),
    (0x4, 0, 2)] ++
  [(0x5, 8, 8), (0x5, 6, 2), (0x5, 4, 2), (0x5, 0, 4)] ++
  [(0x6, 14, 2), (0x6, 12, 2), (0x6, 8, 1), (0x6, 4, 4), (0x6, 0, 4)] ++
  [(0x7, 15, 1), (0x7, 14, 1)] ++
  [(0xA, 15, 1), (0xA, 14, 1), (0xA, 13, 1), (0xA, 12, 1), (0xA, 11, 1), (0xA, 9, 2), (0xA, 8, 1), (0xA, 0, 8)] ++
  [(0xB, 14, 2), (0xB, 12, 2), (0xB, 10, 2), (0xB, 0, 10)]

/-- The value FIELD_GET and FIELD_EXTRACT give for FID 0 to 48 in the register word `v`: the field's bits (R140, R141), for
FID 48 the channel as a frequency (R146). -/
def fidBits (fid : BitVec 6) (v : Word) : Nat :=
  match fieldPlaces[fid.toNat]? with
  | some (_, lo, w) => v.toNat / 2 ^ lo % 2 ^ w
  | none => v.toNat % 1024 + 875

/-- The register of FID 0 to 48 (R140). -/
def fidReg (fid : BitVec 6) : BitVec 4 :=
  match fieldPlaces[fid.toNat]? with
  | some (r, _, _) => r
  | none => 0xB

/-- The unnamed bits of each register, x[0x00] to x[0x0F] (41_field_decoder.md R144). -/
def unnamedOf : List Word :=
  [0x0000, 0x0000, 0x10BE, 0x7C00, 0x2300, 0x0000, 0x0E00, 0x3FFF] ++
  [0xFFFF, 0xFFFF, 0x0000, 0x0000, 0xFFFF, 0xFFFF, 0xFFFF, 0xFFFF]

/-- n, the characters per segment (10_state.md R43). -/
def segmentChars : AccId → Nat
  | .ps => 2
  | .rt => 4
  | .paging => 4
  | .ptyn => 4

/-- S, the number of segments (10_state.md R43). -/
def segmentCount : AccId → Nat
  | .ps => 4
  | .rt => 16
  | .paging => 16
  | .ptyn => 2

/-- W, the width in characters (10_state.md R43). -/
def textWidth : AccId → Nat
  | .ps => 8
  | .rt => 64
  | .paging => 64
  | .ptyn => 8

/-- `SlTag(v)` for v = 0 to 7 (43_rds_decoder.md R220; notes/assumptions/18). -/
def slTags : List SlTag := [.country, .tmc, .paging, .language, .reserved, .reserved, .broadcaster, .ews]

/-- `EonTag(v)` for v = 0 to 15 (43_rds_decoder.md R225; notes/assumptions/18). -/
def eonTags : List EonTag :=
  [.psFragment, .psFragment, .psFragment, .psFragment, .afPair, .mappedFreq, .mappedFreq, .mappedFreq] ++
  [.mappedFreq, .mappedFreq, .reserved, .reserved, .linkage, .ptyTa, .pin, .reserved]

/-- The date of the Modified Julian Day `m` by the source's formula with its own rational constants (43_rds_decoder.md
R226): floors over the rationals, the months 14 and 15 moved into the next year. -/
def dateOf (m : Nat) : Date :=
  let y : Int := ⌊((m : ℚ) - 15078.2) / 365.25⌋
  let fy : Int := ⌊(y : ℚ) * 365.25⌋
  let mp : Int := ⌊((m : ℚ) - 14956.1 - fy) / 30.6001⌋
  let day : Int := m - 14956 - fy - ⌊(mp : ℚ) * 30.6001⌋
  if mp = 14 ∨ mp = 15 then ⟨y + 1 + 1900, mp - 1 - 12, day, (m + 2) % 7⟩ else ⟨y + 1900, mp - 1, day, (m + 2) % 7⟩

/-- The step took no answer to a read. -/
def keepsReadAnswers (s t : State) : Prop := t.env.readScript = s.env.readScript ∧ t.env.readDraws = s.env.readDraws

/-- The step took no answer to a write. -/
def keepsWriteAnswers (s t : State) : Prop :=
  t.env.writeScript = s.env.writeScript ∧ t.env.writeDraws = s.env.writeDraws

/-- The step took exactly one answer, to a read. -/
def tookReadAnswer (s t : State) : Prop :=
  t.env.readScript = s.env.readScript.tail ∧ t.env.readDraws = s.env.readDraws + 1 ∧ keepsWriteAnswers s t

/-- The step took exactly one answer, to a write. -/
def tookWriteAnswer (s t : State) : Prop :=
  t.env.writeScript = s.env.writeScript.tail ∧ t.env.writeDraws = s.env.writeDraws + 1 ∧ keepsReadAnswers s t

/-- The next step of command `i` is a `ReadAll()`: where the pseudocode of its rule has one (R121, R151, R171, R175, R176,
R210, R240, R241). A capture reads at its start and at its deadline test only while it has time left. -/
def readsNow (i : Instr) (s : State) : Prop :=
  match i with
  | .readAll => s.pos = .start
  | .fieldGet fid => s.pos = .start ∧ 36 ≤ fid.toNat ∧ fid.toNat ≤ 48
  | .powerUp => s.pos = .start ∨ s.pos = .tunePoll
  | .seek _ _ => s.pos = .seekPoll
  | .tune => s.pos = .tunePoll
  | .rdsDecode => s.pos = .start ∨ s.pos = .fetchPoll
  | .rdsCapture _ _ _ =>
    s.pos = .fetchPoll ∨
    (s.pos = .captureTest ∧ s.nowAnswer < s.tc + s.argCur.toNat * s.env.params.captureUnitMs) ∨
    (s.pos = .start ∧ s.env.popNow.nowAnswer < s.nowAnswer + s.argCur.toNat * s.env.params.captureUnitMs)
  | .nop | .writeCfg | .shadowRd _ | .shadowWr _ | .fieldSet _ | .fieldExtract _ | .powerDown | .rdsReset
  | .accRd _ _ _ | .accRecv _ _ | .accCur _ | .idRd _ => False

/-- The next step of command `i` is a `WriteCfg()` (R122, R171 to R173, R175, R179). -/
def writesNow (i : Instr) (s : State) : Prop :=
  match i with
  | .writeCfg => s.pos = .start ∧ s.shadowValid = true
  | .powerUp =>
    s.pos = .xoscWrite ∨ s.pos = .configWrite ∨ s.pos = .tuneTrigger ∨ ∃ o, s.pos = .tuneExit o
  | .powerDown => s.pos = .start
  | .seek _ _ => s.pos = .start ∨ ∃ o, s.pos = .seekExit o
  | .tune => s.pos = .start ∨ ∃ o, s.pos = .tuneExit o
  | .nop | .readAll | .shadowRd _ | .shadowWr _ | .fieldGet _ | .fieldSet _ | .fieldExtract _ | .rdsDecode
  | .rdsCapture _ _ _ | .rdsReset | .accRd _ _ _ | .accRecv _ _ | .accCur _ | .idRd _ => False

/-- The end of SEEK, TUNE or POWER_UP without a bus failure: READY, idle, everything of the old station cleared
(43_rds_decoder.md R230). -/
def endsReady (t : State) : Prop :=
  t.pos = .idle ∧ t.seqState = .ready ∧ t.acc = AccFile.empty ∧ t.ident = Identity.empty

/-- A completed sequence that polled: READY with a poll outcome, or HALTED on a bus failure. -/
def endedPolling (t : State) : Prop :=
  t.pos = .idle ∧
    ((t.seqState = .ready ∧ (t.outcome = .ok ∨ t.outcome = .notFound ∨ t.outcome = .hwTimeout)) ∨
      (t.seqState = .halted ∧ t.outcome = .err .bus))

/-- `s` after one `Delay(d)` and nothing else, at position `p` (60_exceptions.md R290): the delay raises the time law's
bound on the next `Now()`, once an earlier `Now()` has set one (notes/assumptions/3). -/
def waited (d : Nat) (p : SeqPos) (s : State) : State :=
  { s with pos := p, env := { s.env with clock := s.env.clock.map (· + d) } }

/-- What a successful poll read of the 32 bytes `b` leaves besides the sequence position, `polls` and the time base
(40_transactions.md R121). -/
def polled (s t : State) (b : List Byte) : Prop :=
  holdsStream t b ∧ readBytes s t b ∧ t.shadowValid = true ∧ keepsHostPort s t ∧ t.acc = s.acc ∧ t.ident = s.ident ∧
    t.seqState = s.seqState ∧ t.outcome = s.outcome ∧ t.t0 = s.t0 ∧ t.tc = s.tc

/-- How many delays of `p` ms make up at least `d` ms. -/
def rounds (d p : Nat) : Nat := (d + p - 1) / p

/-- The steps of SEEK at most: its trigger write, one poll read more than delays, the exit write and the completion
(42_tuning_fsm.md R182). -/
def seekSteps (p : Config.TimingParams) : Nat := 2 * rounds p.tSeekMs p.tSeekPollMs + 4

/-- The steps of TUNE at most: its trigger write, N_TUNE_POLLS poll reads with a delay between two of them, the exit write
and the completion (R182). -/
def tuneSteps (p : Config.TimingParams) : Nat := 2 * p.nTunePolls + 2

/-- The steps of POWER_UP at most: a read, two writes, two delays and those of TUNE (R171). -/
def powerUpSteps (p : Config.TimingParams) : Nat := tuneSteps p + 5

/-- The steps of RDS_DECODE at most: one poll read more than delays, the decode and the completion
(43_rds_decoder.md R210, R240). -/
def decodeSteps (p : Config.TimingParams) : Nat := 2 * rounds p.tRdsMs p.tRdsPollMs + 3

/-- The steps of a capture of duration `arg` at most: for each fetch cycle its reads and delays, an event and a delay; then
the completion (43_rds_decoder.md R241). -/
def captureSteps (p : Config.TimingParams) (arg : Nat) : Nat :=
  decodeSteps p * rounds (arg * p.captureUnitMs) p.tRdsPollMs + 1

end Sys2Proof.Machine

/-! ## Encoding -/

/-- 30_encoding.md R91 to R93: no operand bit is dropped between encoding and decoding, for every command and every
operand value. -/
def Obligations.DecodeOfEncodeIsTheCommand : Prop := ∀ i : Instr, decode (encode i) = .command i

/-- 30_encoding.md R93: a word has one meaning; the word of the command it decodes to is the word itself. -/
def Obligations.EncodeOfDecodedWordIsTheWord : Prop := ∀ (w : Word) (i : Instr), decode w = .command i → encode i = w

/-- 30_encoding.md R94, R95 with the formats of R91: exactly the reserved opcodes are illegal, exactly a set reserved
bit of an assigned opcode's format is rejected as such, and every other word is a command. -/
def Obligations.WordsAreCommandsOrRejectedByName : Prop :=
  ∀ w : Word,
    (0x13 ≤ (w.extractLsb 15 11).toNat → decode w = .rejected .illegalOpcode) ∧
    (∀ r, reservedOf[(w.extractLsb 15 11).toNat]? = some r →
      (w &&& r ≠ 0 → decode w = .rejected .reservedBits) ∧ (w &&& r = 0 → ∃ i, decode w = .command i))

/-- Words written out in 95_test_vectors.md L2.1 and the examples of the rules. -/
def Obligations.WrittenOutWordsDecode : Prop :=
  decode 0x180A = .command (.shadowRd 0xA) ∧ decode 0x2005 = .command (.shadowWr 5) ∧
    decode 0x282B = .command (.fieldGet 43) ∧ decode 0x301C = .command (.fieldSet 28) ∧
    decode 0x382F = .command (.fieldExtract 47) ∧ decode 0x5002 = .command (.seek 1 0) ∧
    decode 0x6824 = .command (.rdsCapture true 2 .a) ∧ decode 0x6836 = .command (.rdsCapture true 11 .a) ∧
    decode 0x7B09 = .command (.accRd .rt .b 9) ∧ decode 0x8500 = .command (.accRecv .paging .b) ∧
    decode 0x8C00 = .command (.accCur .paging) ∧ decode 0x9001 = .command (.idRd .info)

/-! ## Reset and the invariant -/

/-- 70_reset_and_hazards.md R310: `rst`, asserted at any step of any state, leaves every value the table of R310
states, and changes nothing of the tuner, the time base and the host. (The values of the hidden state, which R310
calls unspecified, are not claimed.) -/
def Obligations.RstSetsEveryStatedValue : Prop :=
  ∀ (s : State) (r : List HostAct), s.env.agenda = .rst :: r →
    ∃ t, step s = .next t ∧ (∀ i, t.reg i = 0) ∧ t.shadowValid = false ∧ t.seqState = .poweredDown ∧ t.stat = 0 ∧
      t.outcome = .none ∧ t.dropped = false ∧ t.busErr = false ∧ t.cwCur = 0 ∧ t.argCur = 0 ∧ t.arg = 0 ∧
      t.result = 0 ∧ t.errCmd = 0 ∧ (∀ off : BitVec 3, hostRead off t = 0) ∧
      (∀ acc buf k, t.slotOf acc buf k = ⟨false, 0⟩) ∧ (∀ acc buf, t.recvOf acc buf = 0) ∧
      (∀ acc, t.curFlagOf acc = .a) ∧ t.ident = ⟨false, 0, 0, 0⟩ ∧ t.events = [] ∧ t.bus = [] ∧
      t.env = { s.env with agenda := r }

/-- The sound states begin at reset: `State.consistent` of Sys2Proof/Safety.lean holds of `State.reset`, whatever the
agents' data. (The sequence position at reset is the model's choice, notes/assumptions/5.) -/
def Obligations.ResetIsConsistent : Prop := ∀ e : Env, State.consistent { State.reset with env := e } = true

/-- Every step from a sound state, whatever the host, the tuner and the time base do, leads to a sound state
(10_state.md R35, R36, R48, R49; 43_rds_decoder.md R232 (5)). -/
def Obligations.EveryStepKeepsConsistent : Prop :=
  ∀ s t : State, s.consistent = true → step s = .next t → t.consistent = true

/-- From a sound state no step stops: no error of the spec ends a run (60_exceptions.md R280, R286). -/
def Obligations.ConsistentStatesNeverStop : Prop := ∀ s : State, s.consistent = true → ∃ t, step s = .next t

/-- 10_state.md R49, for every state a sound state steps to. -/
def Obligations.ReadyStatesHaveAValidShadow : Prop :=
  ∀ s t : State, s.consistent = true → step s = .next t →
    (t.seqState = .ready ∨ t.seqState = .seeking ∨ t.seqState = .tuning ∨ t.seqState = .poweringDown ∨
      t.seqState = .rdsFetch) → t.shadowValid = true

/-! ## Commands, the host port, errors -/

/-- A step runs the latched command: with a command running, and the host leaving the block its turn, the step is
`exec` of the command that the latched word decodes to. -/
def Obligations.StepRunsTheLatchedCommand : Prop :=
  ∀ (s : State) (i : Instr), s.pos ≠ .idle → decode s.cwCur = .command i →
    (s.env.agenda = [] → step s = exec i s) ∧
    (∀ r, s.env.agenda = .turn :: r → step s = exec i { s with env := { s.env with agenda := r } })

/-- 10_state.md R38: a CMD write with BUSY = 0 latches the word and ARG and sets BUSY; with BUSY = 1 it is discarded
and sets DROPPED; CMD reads back `cw_cur`, which is 0 after reset. -/
def Obligations.CommandWriteIsLatchedOrDropped : Prop :=
  (∀ (s : State) (w : Word) (r : List HostAct), s.env.agenda = .write 0 w :: r →
    (s.busy = false → ∃ t, step s = .next t ∧ t.cwCur = w ∧ t.argCur = s.arg ∧ t.busy = true ∧
      t = { s with cwCur := w, argCur := s.arg, pos := t.pos, seqState := t.seqState,
                   env := { s.env with agenda := r } }) ∧
    (s.busy = true → step s = .next { s with dropped := true, env := { s.env with agenda := r } })) ∧
  (∀ s : State, hostRead 0 s = s.cwCur) ∧ State.reset.cwCur = 0

/-- 60_exceptions.md R283 (1) to (4) and 42_tuning_fsm.md R170: the common checks at acceptance, in their order, and
the state a command that passes them runs in. (Which step shows it is the model's reading, notes/assumptions/10: between
its acceptance and its completion a rejected command stands at the position `reject` with STATE unchanged. R283 and R170
give the checks, their order and the transient states.) -/
def Obligations.AcceptanceChecksInOrder : Prop :=
  ∀ (s : State) (w : Word) (r : List HostAct), s.env.agenda = .write 0 w :: r → s.busy = false →
    ∃ t, step s = .next t ∧
      (s.seqState = .halted → t.pos = .reject .illegalState ∧ t.seqState = .halted) ∧
      (s.seqState ≠ .halted →
        (decode w = .rejected .illegalOpcode → t.pos = .reject .illegalOpcode ∧ t.seqState = s.seqState) ∧
        (decode w = .rejected .reservedBits → t.pos = .reject .reservedBits ∧ t.seqState = s.seqState) ∧
        (∀ i, decode w = .command i →
          (i = .powerUp →
            if s.seqState = .poweredDown then t.pos = .start ∧ t.seqState = .poweringUp
            else t.pos = .reject .illegalState ∧ t.seqState = s.seqState) ∧
          ((i = .powerDown ∨ (∃ m u, i = .seek m u) ∨ i = .tune ∨ i = .rdsDecode ∨ ∃ f g v, i = .rdsCapture f g v) →
            if s.seqState = .ready then
              t.pos = .start ∧ (i = .powerDown → t.seqState = .poweringDown) ∧
                (∀ m u, i = .seek m u → t.seqState = .seeking) ∧ (i = .tune → t.seqState = .tuning) ∧
                (i = .rdsDecode → t.seqState = .rdsFetch) ∧ (∀ f g v, i = .rdsCapture f g v → t.seqState = .rdsFetch)
            else t.pos = .reject .illegalState ∧ t.seqState = s.seqState) ∧
          ((i ≠ .powerUp ∧ i ≠ .powerDown ∧ (∀ m u, i ≠ .seek m u) ∧ i ≠ .tune ∧ i ≠ .rdsDecode ∧
              ∀ f g v, i ≠ .rdsCapture f g v) →
            t.seqState = s.seqState ∧
              if s.seqState = .poweredDown ∨ s.seqState = .ready then t.pos = .start
              else t.pos = .reject .illegalState)))

/-- 60_exceptions.md R284: a command rejected by a common check leaves, two steps later, the state before the CMD
write but for `cw_cur`, `arg_cur`, ERRCMD and OUTCOME (and the host's own agenda). -/
def Obligations.RejectedCommandOnlyReportsItsError : Prop :=
  ∀ (s : State) (w : Word) (e : ErrCode), s.env.agenda = [.write 0 w] → s.busy = false →
    check w s.seqState = .error e →
    ∃ t u, step s = .next t ∧ step t = .next u ∧
      u = { s with cwCur := w, argCur := s.arg, errCmd := w, outcome := .err e, env := { s.env with agenda := [] } }

/-- 60_exceptions.md R282: whatever the command, a completion with an error other than E_BUS changes ERRCMD, OUTCOME
and BUSY, and nothing else, and it is the command's first step, so nothing happened before it either. -/
def Obligations.ErrorCompletionsChangeOnlyTheReport : Prop :=
  ∀ (i : Instr) (s t : State) (e : ErrCode), s.consistent = true → s.pos ≠ .idle → decode s.cwCur = .command i →
    exec i s = .next t → t.pos = .idle → t.outcome = .err e → e ≠ .bus →
    reports e s t ∧ (s.pos = .start ∨ s.pos = .reject e)

/-- 60_exceptions.md R287: in HALTED every CMD write completes with E_ILLEGAL_STATE and does nothing else, no step but
`rst` leaves HALTED or clears BUSERR, `rst` does, and with no action the block stays as it is. -/
def Obligations.HaltedIsLeftOnlyByRst : Prop :=
  ∀ s : State, s.consistent = true → s.seqState = .halted →
    s.busErr = true ∧
    (∀ t, s.env.agenda.head? ≠ some .rst → step s = .next t → t.seqState = .halted ∧ t.busErr = true) ∧
    (∀ r, s.env.agenda = .rst :: r → ∃ t, step s = .next t ∧ t.seqState = .poweredDown ∧ t.busErr = false) ∧
    (s.busy = false → ∀ w, s.env.agenda = [.write 0 w] → ∃ t u, step s = .next t ∧ step t = .next u ∧
      u = { s with cwCur := w, argCur := s.arg, errCmd := w, outcome := .err .illegalState,
                   env := { s.env with agenda := [] } }) ∧
    (s.busy = false → s.env.agenda = [] → step s = .next s)

/-- 10_state.md R36: the fields of STAT with the codes of R35 and 60_exceptions.md R280, the value 0x0000 after reset, and
the completion step. -/
def Obligations.StatShowsItsFields : Prop :=
  (∀ s : State, s.stat.getLsbD 15 = s.busy ∧ s.stat.extractLsb 14 12 = s.seqState.code ∧
    s.stat.extractLsb 11 8 = s.outcome.code ∧ s.stat.extractLsb 7 2 = 0 ∧ s.stat.getLsbD 1 = s.dropped ∧
    s.stat.getLsbD 0 = s.busErr ∧ hostRead 3 s = s.stat) ∧
  SeqState.code .poweredDown = 0 ∧ SeqState.code .poweringUp = 1 ∧ SeqState.code .ready = 2 ∧
  SeqState.code .seeking = 3 ∧ SeqState.code .tuning = 4 ∧ SeqState.code .poweringDown = 5 ∧
  SeqState.code .rdsFetch = 6 ∧ SeqState.code .halted = 7 ∧
  OutcomeCode.code .none = 0x0 ∧ OutcomeCode.code .ok = 0x1 ∧ OutcomeCode.code .notFound = 0x2 ∧
  OutcomeCode.code .hwTimeout = 0x3 ∧ OutcomeCode.code (.err .illegalOpcode) = 0x8 ∧
  OutcomeCode.code (.err .reservedBits) = 0x9 ∧ OutcomeCode.code (.err .illegalState) = 0xA ∧
  OutcomeCode.code (.err .badIndex) = 0xB ∧ OutcomeCode.code (.err .badValue) = 0xC ∧
  OutcomeCode.code (.err .notSynced) = 0xD ∧ OutcomeCode.code (.err .bus) = 0xE ∧
  State.reset.stat = 0 ∧
  (∀ (o : OutcomeCode) (s : State), complete o s = { s with outcome := o, pos := .idle } ∧ (complete o s).busy = false)

/-- 92_eei_decisions.md D2, 10_state.md R39, 20_memory.md R69 (3): what the host reads, that a read changes nothing of
the block, that ARG takes a write at any time, and that writes to the other offsets are ignored. (That the value read
joins `env.hostReads` is the model's choice, notes/assumptions/16.) -/
def Obligations.HostPortAccesses : Prop :=
  ∀ (s : State) (r : List HostAct),
    (∀ off, s.env.agenda = .read off :: r →
      step s = .next { s with env := { s.env with agenda := r, hostReads := s.env.hostReads ++ [hostRead off s] } }) ∧
    (∀ v, s.env.agenda = .write 1 v :: r → step s = .next { s with arg := v, env := { s.env with agenda := r } }) ∧
    (∀ off v, 2 ≤ off.toNat → s.env.agenda = .write off v :: r →
      step s = .next { s with env := { s.env with agenda := r } }) ∧
    hostRead 1 s = s.arg ∧ hostRead 2 s = s.result ∧ hostRead 4 s = s.errCmd ∧
    (∀ off : BitVec 3, 5 ≤ off.toNat → hostRead off s = 0)

/-- 60_exceptions.md R296: with no command running and no host action the block idles. -/
def Obligations.IdleBlockWaits : Prop := ∀ s : State, s.pos = .idle → s.env.agenda = [] → step s = .next s

/-- 60_exceptions.md R286, 20_memory.md R61, R62, R63, R66: wherever a command's next step is a read or a write, that step
makes exactly this transaction: an answer of 32 bytes, or `Ok`, joins the history and leaves BUSERR, any other answer
joins it as `BusError` and halts the block, with no register changed by a failed read and the registers of a failed
write as they were sent; everywhere else a step makes no transaction and takes no answer. -/
def Obligations.FailedTransactionsHalt : Prop :=
  ∀ (i : Instr) (s : State),
    (readsNow i s →
      (∀ b, s.env.peekRead = .bytes b → b.length = 32 → ∃ t, exec i s = .next t ∧ readBytes s t b ∧ holdsStream t b ∧
        t.shadowValid = true ∧ t.busErr = s.busErr ∧ tookReadAnswer s t) ∧
      ((∀ b, s.env.peekRead = .bytes b → b.length ≠ 32) → ∃ t, exec i s = .next t ∧ t.x = s.x ∧ haltedOn s t ∧
        t.bus = s.bus ++ [.rd s.env.params.devAddr s.env.params.readCmd 32 .busError] ∧ tookReadAnswer s t)) ∧
    (writesNow i s →
      (s.env.peekWrite = .ok → ∃ t, exec i s = .next t ∧ wroteConfig s t ∧ t.shadowValid = s.shadowValid ∧
        t.busErr = s.busErr ∧ tookWriteAnswer s t) ∧
      (s.env.peekWrite = .busError → ∃ t, exec i s = .next t ∧ haltedOn s t ∧
        t.bus = s.bus ++ [.wr s.env.params.devAddr (configBytes t) .busError] ∧ tookWriteAnswer s t ∧
        ∃ u, exec i { s with env := { s.env with writeScript := [.ok] } } = .next u ∧ t.x = u.x)) ∧
    (¬ readsNow i s → ¬ writesNow i s → ∀ t, exec i s = .next t →
      t.bus = s.bus ∧ t.busErr = s.busErr ∧ keepsReadAnswers s t ∧ keepsWriteAnswers s t)

/-! ## What no command changes -/

/-- 10_state.md R35: a step of a running command leaves STATE, or moves it along the graph of R35, and then the command
completes in that step (42_tuning_fsm.md R170). -/
def Obligations.StateFollowsItsGraph : Prop :=
  ∀ (i : Instr) (s t : State), s.consistent = true → s.pos ≠ .idle → decode s.cwCur = .command i →
    exec i s = .next t →
    t.seqState = s.seqState ∨
    (t.pos = .idle ∧
      ((t.seqState = .halted ∧ t.busErr = true) ∨
        (t.seqState = .ready ∧
          (s.seqState = .poweringUp ∨ s.seqState = .seeking ∨ s.seqState = .tuning ∨ s.seqState = .rdsFetch)) ∨
        (t.seqState = .poweredDown ∧ s.seqState = .poweringDown)))

/-- 10_state.md R37, 20_memory.md R74: no step of a running command changes the latched operands, ARG, DROPPED or the
parameters; only the host's actions do. -/
def Obligations.RunningCommandKeepsItsOperands : Prop :=
  ∀ (i : Instr) (s t : State), s.pos ≠ .idle → exec i s = .next t →
    t.cwCur = s.cwCur ∧ t.argCur = s.argCur ∧ t.arg = s.arg ∧ t.dropped = s.dropped ∧
      t.env.params = s.env.params ∧ t.env.agenda = s.env.agenda ∧ t.env.hostReads = s.env.hostReads

/-- 10_state.md R45, R46: both histories are append-only; only `rst` empties them. -/
def Obligations.HistoriesOnlyGrow : Prop :=
  ∀ s t : State, s.env.agenda.head? ≠ some .rst → step s = .next t →
    (∃ l, t.bus = s.bus ++ l ∧ l.length ≤ 1) ∧ (∃ l, t.events = s.events ++ l ∧ l.length ≤ 1)

/-- 10_state.md R21, R36: only reset clears `shadow_valid`, DROPPED and BUSERR. -/
def Obligations.OnlyResetClearsTheStickyFlags : Prop :=
  ∀ s t : State, s.env.agenda.head? ≠ some .rst → step s = .next t →
    (s.shadowValid = true → t.shadowValid = true) ∧ (s.dropped = true → t.dropped = true) ∧
      (s.busErr = true → t.busErr = true)

/-- 10_state.md R40: RESULT changes only in an OK completion of one of the seven reading commands. -/
def Obligations.ResultIsWrittenOnlyByReads : Prop :=
  ∀ (i : Instr) (s t : State), exec i s = .next t → t.result ≠ s.result →
    t.outcome = .ok ∧ t.pos = .idle ∧
      ((∃ x, i = .shadowRd x) ∨ (∃ f, i = .fieldGet f) ∨ (∃ f, i = .fieldExtract f) ∨ (∃ a f k, i = .accRd a f k) ∨
        (∃ a f, i = .accRecv a f) ∨ (∃ a, i = .accCur a) ∨ ∃ x, i = .idRd x)

/-- 10_state.md R20: a register outside 0x02 to 0x07 changes only by a read of the device; the others only by such a
read, SHADOW_WR, FIELD_SET and the sequences POWER_UP, POWER_DOWN, SEEK and TUNE. -/
def Obligations.ShadowIsChangedOnlyByItsWriters : Prop :=
  ∀ (i : Instr) (s t : State), exec i s = .next t → t.x ≠ s.x →
    (∃ b, s.env.peekRead = .bytes b ∧ b.length = 32 ∧ holdsStream t b) ∨
    ((∀ j : BitVec 4, (j.toNat < 2 ∨ 7 < j.toNat) → t.reg j = s.reg j) ∧
      ((∃ x, i = .shadowWr x) ∨ (∃ f, i = .fieldSet f) ∨ i = .powerUp ∨ i = .powerDown ∨ (∃ m u, i = .seek m u) ∨
        i = .tune))

/-- 10_state.md R50, D14: an unnamed bit keeps the value last read, except through SHADOW_WR. -/
def Obligations.UnnamedBitsAreCarried : Prop :=
  ∀ (i : Instr) (s t : State), (∀ x, i ≠ .shadowWr x) → exec i s = .next t →
    (∃ b, s.env.peekRead = .bytes b ∧ b.length = 32 ∧ holdsStream t b) ∨
    (∀ j : BitVec 4, ∀ m, unnamedOf[j.toNat]? = some m → t.reg j &&& m = s.reg j &&& m)

/-- 60_exceptions.md R290, the time law, and R298, the time base's liberty: once a `Now()` has answered, no step makes the
bound of the next answer smaller, an answer is never below it and becomes the new one, and a delay of `d` raises it by
at least `d`; every answer the law allows can be given; before the first answer every number can, whatever was delayed.
(The bound is the model's field `env.clock`, notes/assumptions/3.) -/
def Obligations.NowObeysTheTimeLaw : Prop :=
  (∀ (s t : State) (c : Nat), step s = .next t → s.env.clock = some c → ∃ c', t.env.clock = some c' ∧ c ≤ c') ∧
  (∀ s : State, s.tickNow.env.clock = some s.nowAnswer ∧ ∀ c, s.env.clock = some c → c ≤ s.nowAnswer) ∧
  (∀ (d c : Nat) (s : State), s.env.clock = some c → c + d ≤ (delay d s).nowAnswer) ∧
  (∀ (d : Nat) (s : State), s.env.clock = none → (delay d s).env.clock = none) ∧
  State.reset.env.clock = none ∧
  (∀ (s : State) (m : Nat) (l : List Nat), (∀ c, s.env.clock = some c → c ≤ m) →
    ∃ k, State.nowAnswer { s with env := { s.env with slackScript := k :: l } } = m)

/-! ## Register transaction commands -/

/-- 40_transactions.md R120: NOP completes OK and changes nothing else. -/
def Obligations.NopCompletesOk : Prop :=
  ∀ s : State, s.pos = .start → exec .nop s = .next { s with outcome := .ok, pos := .idle }

/-- 40_transactions.md R121, 20_memory.md R62: READ_ALL, on any 32 bytes the device answers, replaces all 16 registers
from the rotated stream and sets `shadow_valid`, and its next step completes OK; nothing else changes. -/
def Obligations.ReadAllUnrotatesTheStream : Prop :=
  ∀ (s : State) (b : List Byte), s.pos = .start → s.env.peekRead = .bytes b → b.length = 32 →
    ∃ t, exec .readAll s = .next t ∧ holdsStream t b ∧ t.shadowValid = true ∧ readBytes s t b ∧
      t = { s with x := t.x, shadowValid := true, bus := t.bus, env := s.env.popRead, pos := .finish .ok } ∧
      exec .readAll t = .next { t with outcome := .ok, pos := .idle }

/-- 40_transactions.md R122, 20_memory.md R63: WRITE_CFG sends the 12 bytes of registers 0x02 to 0x07 and then
completes OK, with no shadow register changed; without a valid shadow it reports E_NOT_SYNCED. -/
def Obligations.WriteCfgSendsTheWriteWindow : Prop :=
  ∀ s : State, s.pos = .start →
    (s.shadowValid = false → ∃ t, exec .writeCfg s = .next t ∧ reports .notSynced s t) ∧
    (s.shadowValid = true → s.env.peekWrite = .ok →
      ∃ t, exec .writeCfg s = .next t ∧ wroteConfig s t ∧
        t = { s with bus := t.bus, env := s.env.popWrite, pos := .finish .ok } ∧
        exec .writeCfg t = .next { t with outcome := .ok, pos := .idle })

/-- 40_transactions.md R123: SHADOW_RD gives the register it names, 0x00 to 0x0F, or reports E_NOT_SYNCED. -/
def Obligations.ShadowRdGivesTheRegister : Prop :=
  ∀ (idx : BitVec 4) (s : State), s.pos = .start →
    (s.shadowValid = true →
      exec (.shadowRd idx) s = .next { s with result := s.reg idx, outcome := .ok, pos := .idle }) ∧
    (s.shadowValid = false → ∃ t, exec (.shadowRd idx) s = .next t ∧ reports .notSynced s t)

/-- 40_transactions.md R124: SHADOW_WR replaces one whole register of the window and no other; outside the window it
reports E_BAD_INDEX, before the shadow check; without a valid shadow E_NOT_SYNCED. -/
def Obligations.ShadowWrWritesTheWindowOnly : Prop :=
  ∀ (idx : BitVec 4) (s : State), s.pos = .start →
    ((idx.toNat < 2 ∨ 7 < idx.toNat) → ∃ t, exec (.shadowWr idx) s = .next t ∧ reports .badIndex s t) ∧
    (2 ≤ idx.toNat ∧ idx.toNat ≤ 7 → s.shadowValid = false →
      ∃ t, exec (.shadowWr idx) s = .next t ∧ reports .notSynced s t) ∧
    (2 ≤ idx.toNat ∧ idx.toNat ≤ 7 → s.shadowValid = true →
      ∃ t, exec (.shadowWr idx) s = .next t ∧ t.reg idx = s.argCur ∧ (∀ j, j ≠ idx → t.reg j = s.reg j) ∧
        t = { s with x := t.x, outcome := .ok, pos := .idle })

/-! ## Fields -/

/-- 41_field_decoder.md R142, for the table of R140: insert then extract gives the value, leaves every other field of the register and every
unnamed bit, and the masks of one register are disjoint. -/
def Obligations.FieldsDoNotInterfere : Prop :=
  fieldTable.map (fun f => (f.reg, f.offset, f.width)) = fieldPlaces ∧
  (∀ f ∈ fieldTable, ∀ v a : Word, a.toNat < 2 ^ f.width →
    f.get (f.set v a) = a ∧
    (∀ g ∈ fieldTable, g.reg = f.reg → g ≠ f → g.get (f.set v a) = g.get v) ∧
    (∀ m, unnamedOf[f.reg.toNat]? = some m → f.set v a &&& m = v &&& m)) ∧
  (∀ f ∈ fieldTable, ∀ g ∈ fieldTable, f.reg = g.reg → f ≠ g → f.mask &&& g.mask = 0)

/-- 41_field_decoder.md R144: the unnamed bits of a register are exactly those no field of the table reaches. -/
def Obligations.UnnamedMasksAreTheComplement : Prop :=
  ∀ r : BitVec 4, unnamedOf[r.toNat]? =
    some (~~~((fieldTable.filter fun f => f.reg = r).foldl (fun m f => m ||| f.mask) (0 : Word)))

/-- 41_field_decoder.md R151: FIELD_GET of an unknown FID, of a field that needs the shadow, and of a fresh field, which
reads the device first and then gives the field of what it read. -/
def Obligations.FieldGetGivesTheField : Prop :=
  ∀ (fid : BitVec 6) (s : State), s.pos = .start →
    (48 < fid.toNat → ∃ t, exec (.fieldGet fid) s = .next t ∧ reports .badIndex s t) ∧
    (fid.toNat < 36 → s.shadowValid = false → ∃ t, exec (.fieldGet fid) s = .next t ∧ reports .notSynced s t) ∧
    (fid.toNat < 36 → s.shadowValid = true →
      exec (.fieldGet fid) s =
        .next { s with result := BitVec.ofNat 16 (fidBits fid (s.reg (fidReg fid))), outcome := .ok, pos := .idle }) ∧
    (36 ≤ fid.toNat → fid.toNat ≤ 48 → ∀ b, s.env.peekRead = .bytes b → b.length = 32 →
      ∃ t, exec (.fieldGet fid) s = .next t ∧ holdsStream t b ∧ readBytes s t b ∧
        t = { s with x := t.x, shadowValid := true, bus := t.bus, env := s.env.popRead, pos := .fieldRead } ∧
        exec (.fieldGet fid) t =
          .next { t with result := BitVec.ofNat 16 (fidBits fid (t.reg (fidReg fid))), outcome := .ok, pos := .idle })

/-- 41_field_decoder.md R152: FIELD_SET checks index, value and shadow in that order, and then replaces exactly the
field's bits of one register. -/
def Obligations.FieldSetReplacesTheFieldBits : Prop :=
  ∀ (fid : BitVec 6) (s : State), s.pos = .start →
    ((fid.toNat < 5 ∨ 35 < fid.toNat) → ∃ t, exec (.fieldSet fid) s = .next t ∧ reports .badIndex s t) ∧
    (∀ r lo w, 5 ≤ fid.toNat → fid.toNat ≤ 35 → fieldPlaces[fid.toNat]? = some (r, lo, w) →
      (2 ^ w ≤ s.argCur.toNat → ∃ t, exec (.fieldSet fid) s = .next t ∧ reports .badValue s t) ∧
      (s.argCur.toNat < 2 ^ w → s.shadowValid = false →
        ∃ t, exec (.fieldSet fid) s = .next t ∧ reports .notSynced s t) ∧
      (s.argCur.toNat < 2 ^ w → s.shadowValid = true →
        ∃ t, exec (.fieldSet fid) s = .next t ∧ t = { s with x := t.x, outcome := .ok, pos := .idle } ∧
          (∀ j, j ≠ r → t.reg j = s.reg j) ∧
          ∀ k < 16, (t.reg r).getLsbD k =
            if lo ≤ k ∧ k < lo + w then s.argCur.getLsbD (k - lo)
            else (s.reg r).getLsbD k))

/-- 41_field_decoder.md R153: FIELD_EXTRACT gives the field of ARG, with or without a valid shadow; the boundary
patterns all-zero and all-one give 0 and 2^w - 1. -/
def Obligations.FieldExtractDecodesArg : Prop :=
  ∀ (fid : BitVec 6) (s : State), s.pos = .start →
    (48 < fid.toNat → ∃ t, exec (.fieldExtract fid) s = .next t ∧ reports .badIndex s t) ∧
    (fid.toNat ≤ 48 →
      exec (.fieldExtract fid) s =
        .next { s with result := BitVec.ofNat 16 (fidBits fid s.argCur), outcome := .ok, pos := .idle }) ∧
    (∀ r lo w, fieldPlaces[fid.toNat]? = some (r, lo, w) → fidBits fid 0 = 0 ∧ fidBits fid 0xFFFF = 2 ^ w - 1) ∧
    fidBits 48 0 = 875 ∧ fidBits 48 0xFFFF = 1898

/-- 41_field_decoder.md R148: the round trip between frequency and channel inside the band, and the clamp outside. -/
def Obligations.FrequencyRoundTripAndClamp : Prop :=
  ∀ f : Word, (875 ≤ f.toNat → f.toNat ≤ 1080 → chanToFreq (freqToChan f) = f.toNat) ∧
    (f.toNat < 875 → chanToFreq (freqToChan f) = 875) ∧ (1080 < f.toNat → chanToFreq (freqToChan f) = 1080) ∧
    freqToChan f < 2 ^ 10

/-! ## Tuning and seek -/

/-- 42_tuning_fsm.md R178: the classification table with its codes, and that the seek loop and the tune loop (of TUNE and of
POWER_UP) end with the classification of the STC and SFBL bits of their last read: a poll read that ends the loop carries
it to the exit write, and once that write is answered the command completes with it. -/
def Obligations.PollOutcomesAreClassified : Prop :=
  classify true true = .notFound ∧ classify false true = .notFound ∧ classify true false = .ok ∧
    classify false false = .hwTimeout ∧ OutcomeCode.code .notFound = 0x2 ∧ OutcomeCode.code .ok = 0x1 ∧
    OutcomeCode.code .hwTimeout = 0x3 ∧
    ∀ (i : Instr) (s : State) (b : List Byte), s.env.peekRead = .bytes b → b.length = 32 →
      ((∃ mode up, i = .seek mode up) ∧ s.pos = .seekPoll ∨ (i = .tune ∨ i = .powerUp) ∧ s.pos = .tunePoll) →
      ∃ t, exec i s = .next t ∧ holdsStream t b ∧
        (t.pos = .seekDelay ∨ t.pos = .tuneDelay ∨
          ((t.pos = .seekExit (classify ((t.reg 0xA).getLsbD 14) ((t.reg 0xA).getLsbD 13)) ∨
              t.pos = .tuneExit (classify ((t.reg 0xA).getLsbD 14) ((t.reg 0xA).getLsbD 13))) ∧
            (t.env.peekWrite = .ok → ∃ u v, exec i t = .next u ∧ exec i u = .next v ∧ v.pos = .idle ∧
              v.outcome = classify ((t.reg 0xA).getLsbD 14) ((t.reg 0xA).getLsbD 13))))

/-- 42_tuning_fsm.md R171, R175: POWER_UP with every transaction answered and STC = 1 on the first poll: read, write of
XOSCEN, delay, write of the power-up defaults, delay, trigger write for DEFAULT_FREQ, poll read, trigger-clear write,
completion in READY, with every bit of every register written. (The spec marks ENABLE = 1 and DISABLE = 0 as its own
inference, D20 and 91_not_in_source.md N7, and that "mute-disable" is DMUTE is presumed, D21: notes/assumptions/21.) -/
def Obligations.PowerUpRunsToReady : Prop :=
  ∀ (s : State) (b0 b1 : List Byte), s.pos = .start →
    s.env.peekRead = .bytes b0 → s.env.popRead.peekRead = .bytes b1 → b0.length = 32 → b1.length = 32 →
    s.env.peekWrite = .ok → s.env.popWrite.peekWrite = .ok → s.env.popWrite.popWrite.peekWrite = .ok →
    s.env.popWrite.popWrite.popWrite.peekWrite = .ok → (b1.getD 0 0).getLsbD 6 = true →
    let p := s.env.params
    ∃ t1 t2 t3 t4 t5 t6 t7 t8 t, exec .powerUp s = .next t1 ∧ exec .powerUp t1 = .next t2 ∧
      exec .powerUp t2 = .next t3 ∧ exec .powerUp t3 = .next t4 ∧ exec .powerUp t4 = .next t5 ∧
      exec .powerUp t5 = .next t6 ∧ exec .powerUp t6 = .next t7 ∧ exec .powerUp t7 = .next t8 ∧
      exec .powerUp t8 = .next t ∧
      holdsStream t1 b0 ∧ readBytes s t1 b0 ∧ t1.shadowValid = true ∧ t1.pos = .xoscWrite ∧
      wroteConfig t1 t2 ∧ t2.reg 7 = t1.reg 7 ||| 0x8000 ∧ (∀ j : BitVec 4, j ≠ 7 → t2.reg j = t1.reg j) ∧
      t3 = waited p.tXoscMs .configWrite t2 ∧
      wroteConfig t3 t4 ∧ t4.reg 2 = (t3.reg 2 &&& 0xFFBF) ||| 0x4001 ∧
      t4.reg 4 = (t3.reg 4 &&& 0xE7FF) ||| 0x1000 ||| p.deDefault.setWidth 16 <<< 11 ∧
      t4.reg 5 = (t3.reg 5 &&& 0x00CF) ||| p.seekthDefault.setWidth 16 <<< 8 ||| p.spaceDefault.setWidth 16 <<< 4 ∧
      t4.reg 6 = (t3.reg 6 &&& 0xFF00) ||| p.sksnrDefault.setWidth 16 <<< 4 ||| p.skcntDefault.setWidth 16 ∧
      (∀ j : BitVec 4, j ≠ 2 → j ≠ 4 → j ≠ 5 → j ≠ 6 → t4.reg j = t3.reg j) ∧
      t5 = waited p.tPwrupMs .tuneTrigger t4 ∧
      wroteConfig t5 t6 ∧
      t6.reg 3 = (t5.reg 3 &&& 0x7C00) ||| 0x8000 |||
        BitVec.ofNat 16 (min (max p.defaultFreq.toNat 875) 1080 - 875) ∧
      (∀ j : BitVec 4, j ≠ 3 → t6.reg j = t5.reg j) ∧
      holdsStream t7 b1 ∧ readBytes t6 t7 b1 ∧
      wroteConfig t7 t8 ∧ t8.reg 3 = t7.reg 3 &&& 0x7FFF ∧ (∀ j : BitVec 4, j ≠ 3 → t8.reg j = t7.reg j) ∧
      t = { t8 with acc := AccFile.empty, ident := Identity.empty, seqState := .ready,
                    outcome := (if (b1.getD 0 0).getLsbD 5 then .notFound else .ok), pos := .idle } ∧
      endsReady t ∧ keepsHostPort s t ∧ t.shadowValid = true ∧
      t.env.clock = s.env.clock.map (· + (p.tXoscMs + p.tPwrupMs)) ∧
      t.bus = s.bus ++ [.rd p.devAddr p.readCmd 32 (.bytes b0), .wr p.devAddr (configBytes t2) .ok,
        .wr p.devAddr (configBytes t4) .ok, .wr p.devAddr (configBytes t6) .ok,
        .rd p.devAddr p.readCmd 32 (.bytes b1), .wr p.devAddr (configBytes t8) .ok]

/-- 42_tuning_fsm.md R172: POWER_DOWN stages AHIZEN = 1, GPIO1 to GPIO3 = 0, DMUTE = 0, ENABLE = DISABLE = 1, writes,
then waits T_PWRDN_MS, then ends in POWERED_DOWN; the accumulators and the identity are unchanged. (That "mute-disable" is DMUTE
is presumed, D21: notes/assumptions/21.) -/
def Obligations.PowerDownRunsToPoweredDown : Prop :=
  ∀ s : State, s.pos = .start → s.env.peekWrite = .ok →
    ∃ t1 t2 t, exec .powerDown s = .next t1 ∧ exec .powerDown t1 = .next t2 ∧ exec .powerDown t2 = .next t ∧
      wroteConfig s t1 ∧ t1 = { s with x := t1.x, bus := t1.bus, env := s.env.popWrite, pos := .powerDownDelay } ∧
      t2 = waited s.env.params.tPwrdnMs (.finish .ok) t1 ∧
      t = { t2 with seqState := .poweredDown, outcome := .ok, pos := .idle } ∧
      t.pos = .idle ∧ t.seqState = .poweredDown ∧ t.outcome = .ok ∧ keepsHostPort s t ∧ t.acc = s.acc ∧
      t.ident = s.ident ∧ t.shadowValid = s.shadowValid ∧
      t.env.clock = s.env.clock.map (· + s.env.params.tPwrdnMs) ∧ wroteConfig s t ∧
      t.reg 2 = (s.reg 2 &&& 0xBFFF) ||| 0x0041 ∧ t.reg 4 = s.reg 4 &&& 0xFFC0 ∧ t.reg 7 = s.reg 7 ||| 0x4000 ∧
      (∀ j : BitVec 4, j ≠ 2 → j ≠ 4 → j ≠ 7 → t.reg j = s.reg j)

/-- 42_tuning_fsm.md R173, R176, R178, R179: SEEK writes SKMODE, SEEKUP and SEEK = 1; with STC = 1 on the first poll it
then writes the word the device returned with SEEK cleared, resets the accumulators and ends in READY with the
classified outcome. -/
def Obligations.SeekRunsToReady : Prop :=
  ∀ (mode up : BitVec 1) (s : State) (b : List Byte), s.pos = .start →
    s.env.peekRead = .bytes b → b.length = 32 → s.env.peekWrite = .ok → s.env.popWrite.peekWrite = .ok →
    (b.getD 0 0).getLsbD 6 = true →
    ∃ t1 t2 t3 t, exec (.seek mode up) s = .next t1 ∧ exec (.seek mode up) t1 = .next t2 ∧
      exec (.seek mode up) t2 = .next t3 ∧ exec (.seek mode up) t3 = .next t ∧
      wroteConfig s t1 ∧ t1.t0 = s.nowAnswer ∧
      (∀ k < 16, (t1.reg 2).getLsbD k =
        if k = 10 then mode.getLsbD 0 else if k = 9 then up.getLsbD 0 else if k = 8 then true
        else (s.reg 2).getLsbD k) ∧
      (∀ j : BitVec 4, j ≠ 2 → t1.reg j = s.reg j) ∧
      holdsStream t2 b ∧ readBytes t1 t2 b ∧ wroteConfig t2 t ∧ t.reg 2 = t2.reg 2 &&& 0xFEFF ∧
      (∀ j : BitVec 4, j ≠ 2 → t.reg j = t2.reg j) ∧ endsReady t ∧
      t.outcome = (if (b.getD 0 0).getLsbD 5 then .notFound else .ok) ∧ keepsHostPort s t

/-- 42_tuning_fsm.md R174, R175, 41_field_decoder.md R147: TUNE writes the clamped channel with TUNE = 1; with STC or
SFBL on the first poll it then writes the word the device returned with TUNE cleared, resets the accumulators and ends
in READY with the classified outcome. -/
def Obligations.TuneRunsToReady : Prop :=
  ∀ (s : State) (b : List Byte), s.pos = .start →
    s.env.peekRead = .bytes b → b.length = 32 → s.env.peekWrite = .ok → s.env.popWrite.peekWrite = .ok →
    ((b.getD 0 0).getLsbD 6 = true ∨ (b.getD 0 0).getLsbD 5 = true) →
    ∃ t1 t2 t3 t, exec .tune s = .next t1 ∧ exec .tune t1 = .next t2 ∧ exec .tune t2 = .next t3 ∧
      exec .tune t3 = .next t ∧ wroteConfig s t1 ∧
      (t1.reg 3).toNat % 1024 = min (max s.argCur.toNat 875) 1080 - 875 ∧ (t1.reg 3).getLsbD 15 = true ∧
      (∀ k, 10 ≤ k → k < 15 → (t1.reg 3).getLsbD k = (s.reg 3).getLsbD k) ∧
      (∀ j : BitVec 4, j ≠ 3 → t1.reg j = s.reg j) ∧
      holdsStream t2 b ∧ readBytes t1 t2 b ∧ wroteConfig t2 t ∧ t.reg 3 = t2.reg 3 &&& 0x7FFF ∧
      (∀ j : BitVec 4, j ≠ 3 → t.reg j = t2.reg j) ∧ endsReady t ∧
      t.outcome = (if (b.getD 0 0).getLsbD 5 then .notFound else .ok) ∧ keepsHostPort s t

/-- 42_tuning_fsm.md R175, R176 and 43_rds_decoder.md R210, R240, R241: what follows a poll read: the status bit ends the
loop, then the count or the deadline does, else one delay comes before the next poll. SFBL alone does not end the seek
loop. POWER_UP polls as TUNE does, RDS_CAPTURE fetches as RDS_DECODE does. -/
def Obligations.PollLoopsTestStatusThenBound : Prop :=
  ∀ (mode up : BitVec 1) (fen : Bool) (gt : BitVec 4) (gv : GroupVer) (s : State),
    (∀ b : List Byte, s.env.peekRead = .bytes b → b.length = 32 →
      (s.pos = .seekPoll → ∃ t, exec (.seek mode up) s = .next t ∧ polled s t b ∧ t.polls = s.polls ∧
        t.pos =
          if (b.getD 0 0).getLsbD 6 then .seekExit (if (b.getD 0 0).getLsbD 5 then .notFound else .ok)
          else if s.t0 + s.env.params.tSeekMs ≤ s.nowAnswer then
            .seekExit (if (b.getD 0 0).getLsbD 5 then .notFound else .hwTimeout)
          else .seekDelay) ∧
      (s.pos = .tunePoll → ∃ t, exec .tune s = .next t ∧ polled s t b ∧ t.polls = s.polls + 1 ∧
        t.pos =
          if (b.getD 0 0).getLsbD 5 then .tuneExit .notFound else if (b.getD 0 0).getLsbD 6 then .tuneExit .ok
          else if s.polls + 1 = s.env.params.nTunePolls then .tuneExit .hwTimeout else .tuneDelay) ∧
      (s.pos = .fetchPoll → ∃ t, exec .rdsDecode s = .next t ∧ polled s t b ∧ t.polls = s.polls ∧
        t.pos =
          if (b.getD 0 0).getLsbD 7 then .decodeGroup
          else if s.t0 + s.env.params.tRdsMs ≤ s.nowAnswer then .finish .hwTimeout else .fetchDelay) ∧
      (s.pos = .fetchPoll → ∃ t, exec (.rdsCapture fen gt gv) s = .next t ∧ polled s t b ∧ t.polls = s.polls ∧
        t.pos =
          if (b.getD 0 0).getLsbD 7 then
            (if fen = false ∨ (t.reg 0xD).extractLsb 15 11 = gt ++ (if gv = .a then 0#1 else 1#1) then .captureEmit else .captureDelay)
          else if s.t0 + s.env.params.tRdsMs ≤ s.nowAnswer then .captureTest else .fetchDelay)) ∧
    (s.pos = .tunePoll ∨ s.pos = .tuneDelay → exec .powerUp s = exec .tune s) ∧
    (s.pos = .start → exec .rdsDecode s =
      exec .rdsDecode { s with pos := .fetchPoll, t0 := s.nowAnswer, env := s.env.popNow }) ∧
    (s.pos = .seekDelay → exec (.seek mode up) s = .next (waited s.env.params.tSeekPollMs .seekPoll s)) ∧
    (s.pos = .tuneDelay → exec .tune s = .next (waited s.env.params.tTunePollMs .tunePoll s)) ∧
    (s.pos = .fetchDelay → exec .rdsDecode s = .next (waited s.env.params.tRdsPollMs .fetchPoll s) ∧
      exec (.rdsCapture fen gt gv) s = exec .rdsDecode s)

/-- 42_tuning_fsm.md R173 to R175, R179, 43_rds_decoder.md R240: however the loop ended, the exit write carries the word
last read with the trigger cleared, and the command then completes in READY with the loop's outcome: SEEK, TUNE and
POWER_UP with the accumulators and the identity cleared, RDS_DECODE with nothing else changed. -/
def Obligations.TriggersAreClearedOnExit : Prop :=
  ∀ (mode up : BitVec 1) (o : OutcomeCode) (s : State),
    (s.env.peekWrite = .ok →
      (s.pos = .seekExit o → ∃ t, exec (.seek mode up) s = .next t ∧ wroteConfig s t ∧ t.reg 2 = s.reg 2 &&& 0xFEFF ∧
        (∀ j : BitVec 4, j ≠ 2 → t.reg j = s.reg j) ∧
        t = { s with x := t.x, bus := t.bus, env := s.env.popWrite, pos := .exitDone o }) ∧
      (s.pos = .tuneExit o → ∃ t, exec .tune s = .next t ∧ wroteConfig s t ∧ t.reg 3 = s.reg 3 &&& 0x7FFF ∧
        (∀ j : BitVec 4, j ≠ 3 → t.reg j = s.reg j) ∧
        t = { s with x := t.x, bus := t.bus, env := s.env.popWrite, pos := .exitDone o })) ∧
    (s.pos = .tuneExit o → exec .powerUp s = exec .tune s) ∧
    (s.pos = .exitDone o → ∀ i, (i = .seek mode up ∨ i = .tune ∨ i = .powerUp) →
      exec i s = .next { s with acc := AccFile.empty, ident := Identity.empty, seqState := .ready, outcome := o,
                                pos := .idle }) ∧
    (s.pos = .finish o → exec .rdsDecode s = .next { s with seqState := .ready, outcome := o, pos := .idle })

/-- 42_tuning_fsm.md R182: whatever the device and the time base answer, SEEK ends, for every value of the timing
parameters with a poll delay above 0; with the values of 00_scope.md R6 after at most 601 polls, 600 delays, two writes
and the completion. -/
def Obligations.SeekEndsWithinItsBound : Prop :=
  (∀ (mode up : BitVec 1) (s : State), s.pos = .start → 0 < s.env.params.tSeekPollMs →
    ∃ t, runCommand (.seek mode up) (seekSteps s.env.params.toTimingParams) s = .next t ∧ endedPolling t) ∧
  seekSteps timingTable = 1204

/-- 42_tuning_fsm.md R182: whatever the device answers, TUNE ends, for every N_TUNE_POLLS above 0; with the value of
00_scope.md R6 after at most 10 polls, 9 delays, two writes and the completion. -/
def Obligations.TuneEndsWithinItsBound : Prop :=
  (∀ s : State, s.pos = .start → 0 < s.env.params.nTunePolls →
    ∃ t, runCommand .tune (tuneSteps s.env.params.toTimingParams) s = .next t ∧ endedPolling t) ∧
  tuneSteps timingTable = 22

/-- 70_reset_and_hazards.md R321, 42_tuning_fsm.md R171: whatever the device answers, POWER_UP ends, for every
N_TUNE_POLLS above 0; with the value of 00_scope.md R6 after at most 11 reads, 4 writes, 11 delays and the completion. -/
def Obligations.PowerUpEndsWithinItsBound : Prop :=
  (∀ s : State, s.pos = .start → 0 < s.env.params.nTunePolls →
    ∃ t, runCommand .powerUp (powerUpSteps s.env.params.toTimingParams) s = .next t ∧ endedPolling t) ∧
  powerUpSteps timingTable = 27

/-! ## RDS -/

/-- 43_rds_decoder.md R229: the segment write: the n characters in the segment's slots and its marker set; on a flag
transition the receiving buffer is cleared first; the other buffer and the other accumulators are untouched; the same
write again changes nothing. -/
def Obligations.SegmentWriteFillsOneSegment : Prop :=
  ∀ (acc : AccId) (flag : BufId) (seg : Nat) (cs : List Byte) (s : State), cs.length = segmentChars acc →
    seg < segmentCount acc →
    ∃ a, accWrite acc flag seg cs s = { s with acc := a } ∧
      (∀ k, k < textWidth acc → State.slotOf { s with acc := a } acc flag k =
        if seg * cs.length ≤ k ∧ k < seg * cs.length + cs.length then ⟨true, cs.getD (k - seg * cs.length) 0⟩
        else if flag = s.curFlagOf acc then s.slotOf acc flag k else ⟨false, 0⟩) ∧
      (∀ k, k < segmentCount acc → (State.recvOf { s with acc := a } acc flag).getLsbD k =
        (decide (k = seg) || (decide (flag = s.curFlagOf acc) && (s.recvOf acc flag).getLsbD k))) ∧
      State.curFlagOf { s with acc := a } acc = flag ∧
      (∀ g k, g ≠ flag → State.slotOf { s with acc := a } acc g k = s.slotOf acc g k ∧
        State.recvOf { s with acc := a } acc g = s.recvOf acc g) ∧
      (∀ other g k, other ≠ acc → State.slotOf { s with acc := a } other g k = s.slotOf other g k ∧
        State.recvOf { s with acc := a } other g = s.recvOf other g ∧
        State.curFlagOf { s with acc := a } other = s.curFlagOf other) ∧
      accWrite acc flag seg cs { s with acc := a } = { s with acc := a }

/-- 43_rds_decoder.md R230, R242: RDS_RESET completes OK with every slot the sentinel, every marker and flag 0 and the
identity cleared; nothing else changes. -/
def Obligations.RdsResetClearsTextAndIdentity : Prop :=
  ∀ s : State, s.pos = .start → ∃ t, exec .rdsReset s = .next t ∧
    (∀ acc buf k, t.slotOf acc buf k = ⟨false, 0⟩) ∧ (∀ acc buf, t.recvOf acc buf = 0) ∧
    (∀ acc, t.curFlagOf acc = .a) ∧ t.ident = ⟨false, 0, 0, 0⟩ ∧
    t = { s with acc := t.acc, ident := t.ident, outcome := .ok, pos := .idle }

/-- 43_rds_decoder.md R213, R217: one decode sets the identity from blocks A and B, whatever the class, emits at most
one event, and changes besides only the accumulators. (The positions of PI, PTY and TP are general knowledge, R214, I4:
notes/assumptions/17.) -/
def Obligations.DecodeSetsTheIdentity : Prop :=
  ∀ s : State, s.pos = .decodeGroup → ∃ t es, exec .rdsDecode s = .next t ∧ t.ident.valid = true ∧
    t.ident.pi = s.reg 0xC ∧ t.ident.pty.toNat = (s.reg 0xD).toNat / 2 ^ 5 % 32 ∧
    t.ident.tp.toNat = (s.reg 0xD).toNat / 2 ^ 10 % 2 ∧ t.events = s.events ++ es ∧ es.length ≤ 1 ∧
    t = { s with acc := t.acc, ident := t.ident, events := t.events, pos := .finish .ok }

/-- 43_rds_decoder.md R212, R219, R221, R223, R224: which class writes which segment of which accumulator, with which
flag and characters; every other class leaves all accumulators as they are. (The positions of segment, flag and
characters are general knowledge, R215, R216, I4: notes/assumptions/17.) -/
def Obligations.GroupTextGoesToItsAccumulator : Prop :=
  ∀ s : State, s.pos = .decodeGroup →
    let b := s.reg 0xD
    let c := s.reg 0xE
    let d := s.reg 0xF
    let flag : BufId := if b.getLsbD 4 then .b else .a
    let text : List Byte := [c.extractLsb 15 8, c.extractLsb 7 0, d.extractLsb 15 8, d.extractLsb 7 0]
    ∃ t, exec .rdsDecode s = .next t ∧
      t.acc =
        if b.extractLsb 15 11 = 0b00000 then
          (accWrite .ps .a (b.toNat % 4) [d.extractLsb 15 8, d.extractLsb 7 0] s).acc
        else if b.extractLsb 15 11 = 0b00100 then (accWrite .rt flag (b.toNat % 16) text s).acc
        else if b.extractLsb 15 11 = 0b01110 then (accWrite .paging flag (b.toNat % 16) text s).acc
        else if b.extractLsb 15 11 = 0b10100 then (accWrite .ptyn flag (b.toNat % 2) text s).acc
        else s.acc

/-- 43_rds_decoder.md R212, R218 to R228: the event of each of the 32 classes, with the tags of R220 and R225 and the date
of R226. (Layouts: notes/assumptions/17; the two tag tables: notes/assumptions/18.) -/
def Obligations.GroupEventsByClass : Prop :=
  ∀ s : State, s.pos = .decodeGroup →
    let a := s.reg 0xC
    let b := s.reg 0xD
    let c := s.reg 0xE
    let d := s.reg 0xF
    let cls := b.extractLsb 15 11
    let mjd : Nat := (b.toNat % 4) * 2 ^ 15 + c.toNat / 2
    let date := dateOf mjd
    ∃ t, exec .rdsDecode s = .next t ∧
      t.events = s.events ++
        if cls = 0b00000 then
          [.grp0a (b.extractLsb 1 0) (b.extractLsb 4 4) (b.extractLsb 3 3) (b.extractLsb 2 2)
            (BitVec.ofNat 16 (c.toNat / 256 + 875)) (BitVec.ofNat 16 (c.toNat % 256 + 875)) (d.extractLsb 15 8)
            (d.extractLsb 7 0)]
        else if cls = 0b00010 then
          [.grp1 0 (d.extractLsb 15 11) (d.extractLsb 10 6) (d.extractLsb 5 0)
            (some ⟨c.extractLsb 15 15, c.extractLsb 14 12, c.extractLsb 11 0, slTags.getD (c.toNat / 2 ^ 12 % 8) .reserved⟩)]
        else if cls = 0b00011 then
          [.grp1 1 (d.extractLsb 15 11) (d.extractLsb 10 6) (d.extractLsb 5 0) none]
        else if cls = 0b00110 then [.grp3a (b.extractLsb 4 0) c d]
        else if cls = 0b01000 then
          (if 2000 ≤ date.year ∧ date.year ≤ 2099 ∧ 1 ≤ date.month ∧ date.month ≤ 12 ∧ 1 ≤ date.day ∧ date.day ≤ 31 then
            [.clock (BitVec.ofInt 16 date.year) (BitVec.ofInt 4 date.month) (BitVec.ofInt 5 date.day)
              (BitVec.ofInt 3 date.weekday) (BitVec.ofNat 5 ((c.toNat % 2) * 16 + d.toNat / 2 ^ 12))
              (d.extractLsb 11 6)
              (if d.getLsbD 5 then -((d.toNat % 32 : Nat) : Int) else ((d.toNat % 32 : Nat) : Int))]
          else [])
        else if cls = 0b11100 then
          [.grp14a (b.extractLsb 4 4) (b.extractLsb 3 0) c d (eonTags.getD (b.toNat % 16) .reserved)]
        else if cls = 0b00100 ∨ cls = 0b01110 ∨ cls = 0b10100 then []
        else [.unrec (b.extractLsb 15 12) (b.extractLsb 11 11) a b c d]

/-- 43_rds_decoder.md R226, R227: the conversion of every 17-bit day count is the source's formula over the rationals, and
gives a month 1 to 12 and a day 1 to 31; the guard is the conjunction of its three ranges and passes exactly for 51544 to
88068. -/
def Obligations.DateGuardPassesOneRange : Prop :=
  (∀ y mo d : Int, dateOk y mo d = true ↔ 2000 ≤ y ∧ y ≤ 2099 ∧ 1 ≤ mo ∧ mo ≤ 12 ∧ 1 ≤ d ∧ d ≤ 31) ∧
  (∀ m : Nat, m < 131072 →
    mjdToDate m = dateOf m ∧
    1 ≤ (mjdToDate m).month ∧ (mjdToDate m).month ≤ 12 ∧ 1 ≤ (mjdToDate m).day ∧ (mjdToDate m).day ≤ 31 ∧
      (dateOk (mjdToDate m).year (mjdToDate m).month (mjdToDate m).day = true ↔ 51544 ≤ m ∧ m ≤ 88068))

/-- 43_rds_decoder.md R210, R240: RDS_DECODE on a first read with RDSR = 1: read, decode of the blocks of that read,
completion OK in READY. (That PI is block A is general knowledge, R214, I4: notes/assumptions/17.) -/
def Obligations.RdsDecodeRunsOnOneGroup : Prop :=
  ∀ (s : State) (b : List Byte), s.pos = .start → s.env.peekRead = .bytes b → b.length = 32 →
    (b.getD 0 0).getLsbD 7 = true →
    ∃ t1 t2 t, exec .rdsDecode s = .next t1 ∧ exec .rdsDecode t1 = .next t2 ∧ exec .rdsDecode t2 = .next t ∧
      holdsStream t1 b ∧ readBytes s t1 b ∧ t1.events = s.events ∧ t1.acc = s.acc ∧ t1.ident = s.ident ∧
      t1.pos = .decodeGroup ∧ t2.ident.pi = b.getD 4 0 ++ b.getD 5 0 ∧
      t = { t2 with seqState := .ready, outcome := .ok, pos := .idle } ∧ t.bus = t1.bus ∧ t.x = t1.x ∧
      t.result = s.result ∧ t.shadowValid = true

/-- 43_rds_decoder.md R210, R240: whatever the device and the time base answer, RDS_DECODE ends, for every value of the
timing parameters with a poll delay above 0; with the values of 00_scope.md R6 after at most 101 reads and 100 delays, a
decode and the completion. -/
def Obligations.RdsDecodeEndsWithinItsBound : Prop :=
  (∀ s : State, s.pos = .start → 0 < s.env.params.tRdsPollMs →
    ∃ t, runCommand .rdsDecode (decodeSteps s.env.params.toTimingParams) s = .next t ∧ t.pos = .idle ∧
      ((t.seqState = .ready ∧ (t.outcome = .ok ∨ t.outcome = .hwTimeout)) ∨
        (t.seqState = .halted ∧ t.outcome = .err .bus))) ∧
  decodeSteps timingTable = 203

/-- 43_rds_decoder.md R241: a capture samples its deadline start and goes to the deadline test; at the test it completes OK
once the duration has passed (at once, without a transaction, for duration 0), else it begins a fetch cycle; a cycle
that times out leads back to the test; a group it fetches, on whichever poll, is emitted as RAW exactly when the filter
is off or matches type and version, then one delay leads back to the test. -/
def Obligations.RdsCaptureEmitsMatchingGroups : Prop :=
  ∀ (fen : Bool) (gt : BitVec 4) (gv : GroupVer) (s : State),
    (s.pos = .start → exec (.rdsCapture fen gt gv) s =
      exec (.rdsCapture fen gt gv) { s with pos := .captureTest, tc := s.nowAnswer, env := s.env.popNow }) ∧
    (s.pos = .start → s.argCur = 0 → ∃ t, exec (.rdsCapture fen gt gv) s = .next t ∧ t.pos = .idle ∧
      t.seqState = .ready ∧ t.outcome = .ok ∧ t.bus = s.bus ∧ t.x = s.x ∧ keepsHostPort s t ∧ t.acc = s.acc ∧
      t.ident = s.ident) ∧
    (s.pos = .captureTest → s.tc + s.argCur.toNat * s.env.params.captureUnitMs ≤ s.nowAnswer →
      exec (.rdsCapture fen gt gv) s =
        .next { s with env := s.env.popNow, seqState := .ready, outcome := .ok, pos := .idle }) ∧
    (s.pos = .captureTest → s.nowAnswer < s.tc + s.argCur.toNat * s.env.params.captureUnitMs →
      exec (.rdsCapture fen gt gv) s = exec (.rdsCapture fen gt gv)
        { s with pos := .fetchPoll, t0 := s.env.popNow.nowAnswer, env := s.env.popNow.popNow }) ∧
    (∀ b, s.pos = .fetchPoll → s.env.peekRead = .bytes b → b.length = 32 →
      ∃ t, exec (.rdsCapture fen gt gv) s = .next t ∧ polled s t b ∧
        ((b.getD 0 0).getLsbD 7 = true →
          t.pos = if fen = false ∨ (t.reg 0xD).extractLsb 15 11 = gt ++ (if gv = .a then 0#1 else 1#1) then .captureEmit
            else .captureDelay) ∧
        ((b.getD 0 0).getLsbD 7 = false →
          t.pos = if s.t0 + s.env.params.tRdsMs ≤ s.nowAnswer then .captureTest else .fetchDelay)) ∧
    (∀ b, s.pos = .captureTest → s.env.peekRead = .bytes b → b.length = 32 → (b.getD 0 0).getLsbD 7 = true →
      s.nowAnswer < s.tc + s.argCur.toNat * s.env.params.captureUnitMs →
      ∃ t, exec (.rdsCapture fen gt gv) s = .next t ∧ holdsStream t b ∧ readBytes s t b ∧
        t.pos = if fen = false ∨ (t.reg 0xD).extractLsb 15 11 = gt ++ (if gv = .a then 0#1 else 1#1) then .captureEmit
          else .captureDelay) ∧
    (s.pos = .captureEmit → exec (.rdsCapture fen gt gv) s =
      .next { s with pos := .captureDelay,
                     events := s.events ++ [.raw (s.reg 0xC) (s.reg 0xD) (s.reg 0xE) (s.reg 0xF)] }) ∧
    (s.pos = .captureDelay → exec (.rdsCapture fen gt gv) s =
      .next (waited s.env.params.tRdsPollMs .captureTest s))

/-- 43_rds_decoder.md R241: no step of a capture changes the accumulators or the identity, and the events it emits are
RAW. -/
def Obligations.RdsCaptureKeepsTextAndIdentity : Prop :=
  ∀ (fen : Bool) (gt : BitVec 4) (gv : GroupVer) (s t : State), exec (.rdsCapture fen gt gv) s = .next t →
    t.acc = s.acc ∧ t.ident = s.ident ∧ t.result = s.result ∧
      (t.events = s.events ∨ ∃ a b c d, t.events = s.events ++ [.raw a b c d])

/-- 43_rds_decoder.md R241, 70_reset_and_hazards.md R321: whatever the device and the time base answer, a capture ends, for
every value of the timing parameters with a poll delay above 0 and at most T_RDS_MS; with the values of 00_scope.md R6
after at most ARG * 10 fetch cycles of at most 101 reads and 101 delays and one event each. -/
def Obligations.RdsCaptureEndsWithinItsBound : Prop :=
  (∀ (fen : Bool) (gt : BitVec 4) (gv : GroupVer) (s : State), s.pos = .start → 0 < s.env.params.tRdsPollMs →
    s.env.params.tRdsPollMs ≤ s.env.params.tRdsMs →
    ∃ t, runCommand (.rdsCapture fen gt gv) (captureSteps s.env.params.toTimingParams s.argCur.toNat) s = .next t ∧
      t.pos = .idle ∧ ((t.seqState = .ready ∧ t.outcome = .ok) ∨ (t.seqState = .halted ∧ t.outcome = .err .bus))) ∧
  ∀ arg : Nat, captureSteps timingTable arg = 203 * (arg * 10) + 1

/-- 43_rds_decoder.md R243 to R246: what the four reads of accumulators and identity give, and that they change nothing
but RESULT and the completion. -/
def Obligations.TextAndIdentityReads : Prop :=
  ∀ (acc : AccId) (buf : BufId) (slot : BitVec 6) (s : State), s.pos = .start →
    (textWidth acc ≤ slot.toNat → ∃ t, exec (.accRd acc buf slot) s = .next t ∧ reports .badIndex s t) ∧
    (slot.toNat < textWidth acc →
      exec (.accRd acc buf slot) s =
        .next { s with result := BitVec.ofNat 16 ((s.slotOf acc buf slot.toNat).set.toNat * 256 +
                  (s.slotOf acc buf slot.toNat).ch.toNat),
                       outcome := .ok, pos := .idle }) ∧
    exec (.accRecv acc buf) s = .next { s with result := s.recvOf acc buf, outcome := .ok, pos := .idle } ∧
    (∀ k, segmentCount acc ≤ k → (s.recvOf acc buf).getLsbD k = false) ∧
    exec (.accCur acc) s =
      .next { s with result := (if s.curFlagOf acc = .b then 1 else 0), outcome := .ok, pos := .idle } ∧
    exec (.idRd .pi) s = .next { s with result := s.ident.pi, outcome := .ok, pos := .idle } ∧
    exec (.idRd .info) s =
      .next { s with result := BitVec.ofNat 16 (s.ident.valid.toNat * 2 ^ 15 + s.ident.tp.toNat * 2 ^ 5 +
                s.ident.pty.toNat),
                     outcome := .ok, pos := .idle }
end

