-- ==== Sys2Proof/Laws/State.lean ====
section
/-! SUPPORT. One lemma per field of State for each update of it, so that no proof unfolds a record update; and the
same for the parts of the environment. -/

namespace Sys2Proof.Machine


/-! ## complete -/

@[simp] theorem complete_x (o : OutcomeCode) (s : State) : (complete o s).x = s.x := rfl
@[simp] theorem complete_shadowValid (o : OutcomeCode) (s : State) : (complete o s).shadowValid = s.shadowValid := rfl
@[simp] theorem complete_seqState (o : OutcomeCode) (s : State) : (complete o s).seqState = s.seqState := rfl
@[simp] theorem complete_outcome (o : OutcomeCode) (s : State) : (complete o s).outcome = o := rfl
@[simp] theorem complete_dropped (o : OutcomeCode) (s : State) : (complete o s).dropped = s.dropped := rfl
@[simp] theorem complete_busErr (o : OutcomeCode) (s : State) : (complete o s).busErr = s.busErr := rfl
@[simp] theorem complete_cwCur (o : OutcomeCode) (s : State) : (complete o s).cwCur = s.cwCur := rfl
@[simp] theorem complete_argCur (o : OutcomeCode) (s : State) : (complete o s).argCur = s.argCur := rfl
@[simp] theorem complete_arg (o : OutcomeCode) (s : State) : (complete o s).arg = s.arg := rfl
@[simp] theorem complete_result (o : OutcomeCode) (s : State) : (complete o s).result = s.result := rfl
@[simp] theorem complete_errCmd (o : OutcomeCode) (s : State) : (complete o s).errCmd = s.errCmd := rfl
@[simp] theorem complete_acc (o : OutcomeCode) (s : State) : (complete o s).acc = s.acc := rfl
@[simp] theorem complete_ident (o : OutcomeCode) (s : State) : (complete o s).ident = s.ident := rfl
@[simp] theorem complete_events (o : OutcomeCode) (s : State) : (complete o s).events = s.events := rfl
@[simp] theorem complete_bus (o : OutcomeCode) (s : State) : (complete o s).bus = s.bus := rfl
@[simp] theorem complete_pos (o : OutcomeCode) (s : State) : (complete o s).pos = .idle := rfl
@[simp] theorem complete_t0 (o : OutcomeCode) (s : State) : (complete o s).t0 = s.t0 := rfl
@[simp] theorem complete_polls (o : OutcomeCode) (s : State) : (complete o s).polls = s.polls := rfl
@[simp] theorem complete_tc (o : OutcomeCode) (s : State) : (complete o s).tc = s.tc := rfl
@[simp] theorem complete_env (o : OutcomeCode) (s : State) : (complete o s).env = s.env := rfl
@[simp] theorem complete_reg (o : OutcomeCode) (s : State) (i : BitVec 4) : (complete o s).reg i = s.reg i := rfl
@[simp] theorem complete_getField (o : OutcomeCode) (s : State) (f : FieldRow) : (complete o s).getField f = s.getField f := rfl

/-! ## completeWith -/

@[simp] theorem completeWith_x (v : Word) (s : State) : (completeWith v s).x = s.x := rfl
@[simp] theorem completeWith_shadowValid (v : Word) (s : State) : (completeWith v s).shadowValid = s.shadowValid := rfl
@[simp] theorem completeWith_seqState (v : Word) (s : State) : (completeWith v s).seqState = s.seqState := rfl
@[simp] theorem completeWith_outcome (v : Word) (s : State) : (completeWith v s).outcome = .ok := rfl
@[simp] theorem completeWith_dropped (v : Word) (s : State) : (completeWith v s).dropped = s.dropped := rfl
@[simp] theorem completeWith_busErr (v : Word) (s : State) : (completeWith v s).busErr = s.busErr := rfl
@[simp] theorem completeWith_cwCur (v : Word) (s : State) : (completeWith v s).cwCur = s.cwCur := rfl
@[simp] theorem completeWith_argCur (v : Word) (s : State) : (completeWith v s).argCur = s.argCur := rfl
@[simp] theorem completeWith_arg (v : Word) (s : State) : (completeWith v s).arg = s.arg := rfl
@[simp] theorem completeWith_result (v : Word) (s : State) : (completeWith v s).result = v := rfl
@[simp] theorem completeWith_errCmd (v : Word) (s : State) : (completeWith v s).errCmd = s.errCmd := rfl
@[simp] theorem completeWith_acc (v : Word) (s : State) : (completeWith v s).acc = s.acc := rfl
@[simp] theorem completeWith_ident (v : Word) (s : State) : (completeWith v s).ident = s.ident := rfl
@[simp] theorem completeWith_events (v : Word) (s : State) : (completeWith v s).events = s.events := rfl
@[simp] theorem completeWith_bus (v : Word) (s : State) : (completeWith v s).bus = s.bus := rfl
@[simp] theorem completeWith_pos (v : Word) (s : State) : (completeWith v s).pos = .idle := rfl
@[simp] theorem completeWith_t0 (v : Word) (s : State) : (completeWith v s).t0 = s.t0 := rfl
@[simp] theorem completeWith_polls (v : Word) (s : State) : (completeWith v s).polls = s.polls := rfl
@[simp] theorem completeWith_tc (v : Word) (s : State) : (completeWith v s).tc = s.tc := rfl
@[simp] theorem completeWith_env (v : Word) (s : State) : (completeWith v s).env = s.env := rfl
@[simp] theorem completeWith_reg (v : Word) (s : State) (i : BitVec 4) : (completeWith v s).reg i = s.reg i := rfl
@[simp] theorem completeWith_getField (v : Word) (s : State) (f : FieldRow) : (completeWith v s).getField f = s.getField f := rfl

/-! ## completeIn -/

@[simp] theorem completeIn_x (st : SeqState) (o : OutcomeCode) (s : State) : (completeIn st o s).x = s.x := rfl
@[simp] theorem completeIn_shadowValid (st : SeqState) (o : OutcomeCode) (s : State) : (completeIn st o s).shadowValid = s.shadowValid := rfl
@[simp] theorem completeIn_seqState (st : SeqState) (o : OutcomeCode) (s : State) : (completeIn st o s).seqState = st := rfl
@[simp] theorem completeIn_outcome (st : SeqState) (o : OutcomeCode) (s : State) : (completeIn st o s).outcome = o := rfl
@[simp] theorem completeIn_dropped (st : SeqState) (o : OutcomeCode) (s : State) : (completeIn st o s).dropped = s.dropped := rfl
@[simp] theorem completeIn_busErr (st : SeqState) (o : OutcomeCode) (s : State) : (completeIn st o s).busErr = s.busErr := rfl
@[simp] theorem completeIn_cwCur (st : SeqState) (o : OutcomeCode) (s : State) : (completeIn st o s).cwCur = s.cwCur := rfl
@[simp] theorem completeIn_argCur (st : SeqState) (o : OutcomeCode) (s : State) : (completeIn st o s).argCur = s.argCur := rfl
@[simp] theorem completeIn_arg (st : SeqState) (o : OutcomeCode) (s : State) : (completeIn st o s).arg = s.arg := rfl
@[simp] theorem completeIn_result (st : SeqState) (o : OutcomeCode) (s : State) : (completeIn st o s).result = s.result := rfl
@[simp] theorem completeIn_errCmd (st : SeqState) (o : OutcomeCode) (s : State) : (completeIn st o s).errCmd = s.errCmd := rfl
@[simp] theorem completeIn_acc (st : SeqState) (o : OutcomeCode) (s : State) : (completeIn st o s).acc = s.acc := rfl
@[simp] theorem completeIn_ident (st : SeqState) (o : OutcomeCode) (s : State) : (completeIn st o s).ident = s.ident := rfl
@[simp] theorem completeIn_events (st : SeqState) (o : OutcomeCode) (s : State) : (completeIn st o s).events = s.events := rfl
@[simp] theorem completeIn_bus (st : SeqState) (o : OutcomeCode) (s : State) : (completeIn st o s).bus = s.bus := rfl
@[simp] theorem completeIn_pos (st : SeqState) (o : OutcomeCode) (s : State) : (completeIn st o s).pos = .idle := rfl
@[simp] theorem completeIn_t0 (st : SeqState) (o : OutcomeCode) (s : State) : (completeIn st o s).t0 = s.t0 := rfl
@[simp] theorem completeIn_polls (st : SeqState) (o : OutcomeCode) (s : State) : (completeIn st o s).polls = s.polls := rfl
@[simp] theorem completeIn_tc (st : SeqState) (o : OutcomeCode) (s : State) : (completeIn st o s).tc = s.tc := rfl
@[simp] theorem completeIn_env (st : SeqState) (o : OutcomeCode) (s : State) : (completeIn st o s).env = s.env := rfl
@[simp] theorem completeIn_reg (st : SeqState) (o : OutcomeCode) (s : State) (i : BitVec 4) : (completeIn st o s).reg i = s.reg i := rfl
@[simp] theorem completeIn_getField (st : SeqState) (o : OutcomeCode) (s : State) (f : FieldRow) : (completeIn st o s).getField f = s.getField f := rfl

/-! ## raise -/

@[simp] theorem raise_x (e : ErrCode) (s : State) : (raise e s).x = s.x := rfl
@[simp] theorem raise_shadowValid (e : ErrCode) (s : State) : (raise e s).shadowValid = s.shadowValid := rfl
@[simp] theorem raise_seqState (e : ErrCode) (s : State) : (raise e s).seqState = s.seqState := rfl
@[simp] theorem raise_outcome (e : ErrCode) (s : State) : (raise e s).outcome = .err e := rfl
@[simp] theorem raise_dropped (e : ErrCode) (s : State) : (raise e s).dropped = s.dropped := rfl
@[simp] theorem raise_busErr (e : ErrCode) (s : State) : (raise e s).busErr = s.busErr := rfl
@[simp] theorem raise_cwCur (e : ErrCode) (s : State) : (raise e s).cwCur = s.cwCur := rfl
@[simp] theorem raise_argCur (e : ErrCode) (s : State) : (raise e s).argCur = s.argCur := rfl
@[simp] theorem raise_arg (e : ErrCode) (s : State) : (raise e s).arg = s.arg := rfl
@[simp] theorem raise_result (e : ErrCode) (s : State) : (raise e s).result = s.result := rfl
@[simp] theorem raise_errCmd (e : ErrCode) (s : State) : (raise e s).errCmd = s.cwCur := rfl
@[simp] theorem raise_acc (e : ErrCode) (s : State) : (raise e s).acc = s.acc := rfl
@[simp] theorem raise_ident (e : ErrCode) (s : State) : (raise e s).ident = s.ident := rfl
@[simp] theorem raise_events (e : ErrCode) (s : State) : (raise e s).events = s.events := rfl
@[simp] theorem raise_bus (e : ErrCode) (s : State) : (raise e s).bus = s.bus := rfl
@[simp] theorem raise_pos (e : ErrCode) (s : State) : (raise e s).pos = .idle := rfl
@[simp] theorem raise_t0 (e : ErrCode) (s : State) : (raise e s).t0 = s.t0 := rfl
@[simp] theorem raise_polls (e : ErrCode) (s : State) : (raise e s).polls = s.polls := rfl
@[simp] theorem raise_tc (e : ErrCode) (s : State) : (raise e s).tc = s.tc := rfl
@[simp] theorem raise_env (e : ErrCode) (s : State) : (raise e s).env = s.env := rfl
@[simp] theorem raise_reg (e : ErrCode) (s : State) (i : BitVec 4) : (raise e s).reg i = s.reg i := rfl
@[simp] theorem raise_getField (e : ErrCode) (s : State) (f : FieldRow) : (raise e s).getField f = s.getField f := rfl

/-! ## busFail -/

@[simp] theorem busFail_x (t : BusTx) (s : State) : (busFail t s).x = s.x := rfl
@[simp] theorem busFail_shadowValid (t : BusTx) (s : State) : (busFail t s).shadowValid = s.shadowValid := rfl
@[simp] theorem busFail_seqState (t : BusTx) (s : State) : (busFail t s).seqState = .halted := rfl
@[simp] theorem busFail_outcome (t : BusTx) (s : State) : (busFail t s).outcome = .err .bus := rfl
@[simp] theorem busFail_dropped (t : BusTx) (s : State) : (busFail t s).dropped = s.dropped := rfl
@[simp] theorem busFail_busErr (t : BusTx) (s : State) : (busFail t s).busErr = true := rfl
@[simp] theorem busFail_cwCur (t : BusTx) (s : State) : (busFail t s).cwCur = s.cwCur := rfl
@[simp] theorem busFail_argCur (t : BusTx) (s : State) : (busFail t s).argCur = s.argCur := rfl
@[simp] theorem busFail_arg (t : BusTx) (s : State) : (busFail t s).arg = s.arg := rfl
@[simp] theorem busFail_result (t : BusTx) (s : State) : (busFail t s).result = s.result := rfl
@[simp] theorem busFail_errCmd (t : BusTx) (s : State) : (busFail t s).errCmd = s.cwCur := rfl
@[simp] theorem busFail_acc (t : BusTx) (s : State) : (busFail t s).acc = s.acc := rfl
@[simp] theorem busFail_ident (t : BusTx) (s : State) : (busFail t s).ident = s.ident := rfl
@[simp] theorem busFail_events (t : BusTx) (s : State) : (busFail t s).events = s.events := rfl
@[simp] theorem busFail_bus (t : BusTx) (s : State) : (busFail t s).bus = s.bus ++ [t] := rfl
@[simp] theorem busFail_pos (t : BusTx) (s : State) : (busFail t s).pos = .idle := rfl
@[simp] theorem busFail_t0 (t : BusTx) (s : State) : (busFail t s).t0 = s.t0 := rfl
@[simp] theorem busFail_polls (t : BusTx) (s : State) : (busFail t s).polls = s.polls := rfl
@[simp] theorem busFail_tc (t : BusTx) (s : State) : (busFail t s).tc = s.tc := rfl
@[simp] theorem busFail_env (t : BusTx) (s : State) : (busFail t s).env = s.env := rfl
@[simp] theorem busFail_reg (t : BusTx) (s : State) (i : BitVec 4) : (busFail t s).reg i = s.reg i := rfl
@[simp] theorem busFail_getField (t : BusTx) (s : State) (f : FieldRow) : (busFail t s).getField f = s.getField f := rfl

/-! ## emit -/

@[simp] theorem emit_x (e : Event) (s : State) : (emit e s).x = s.x := rfl
@[simp] theorem emit_shadowValid (e : Event) (s : State) : (emit e s).shadowValid = s.shadowValid := rfl
@[simp] theorem emit_seqState (e : Event) (s : State) : (emit e s).seqState = s.seqState := rfl
@[simp] theorem emit_outcome (e : Event) (s : State) : (emit e s).outcome = s.outcome := rfl
@[simp] theorem emit_dropped (e : Event) (s : State) : (emit e s).dropped = s.dropped := rfl
@[simp] theorem emit_busErr (e : Event) (s : State) : (emit e s).busErr = s.busErr := rfl
@[simp] theorem emit_cwCur (e : Event) (s : State) : (emit e s).cwCur = s.cwCur := rfl
@[simp] theorem emit_argCur (e : Event) (s : State) : (emit e s).argCur = s.argCur := rfl
@[simp] theorem emit_arg (e : Event) (s : State) : (emit e s).arg = s.arg := rfl
@[simp] theorem emit_result (e : Event) (s : State) : (emit e s).result = s.result := rfl
@[simp] theorem emit_errCmd (e : Event) (s : State) : (emit e s).errCmd = s.errCmd := rfl
@[simp] theorem emit_acc (e : Event) (s : State) : (emit e s).acc = s.acc := rfl
@[simp] theorem emit_ident (e : Event) (s : State) : (emit e s).ident = s.ident := rfl
@[simp] theorem emit_events (e : Event) (s : State) : (emit e s).events = s.events ++ [e] := rfl
@[simp] theorem emit_bus (e : Event) (s : State) : (emit e s).bus = s.bus := rfl
@[simp] theorem emit_pos (e : Event) (s : State) : (emit e s).pos = s.pos := rfl
@[simp] theorem emit_t0 (e : Event) (s : State) : (emit e s).t0 = s.t0 := rfl
@[simp] theorem emit_polls (e : Event) (s : State) : (emit e s).polls = s.polls := rfl
@[simp] theorem emit_tc (e : Event) (s : State) : (emit e s).tc = s.tc := rfl
@[simp] theorem emit_env (e : Event) (s : State) : (emit e s).env = s.env := rfl
@[simp] theorem emit_reg (e : Event) (s : State) (i : BitVec 4) : (emit e s).reg i = s.reg i := rfl
@[simp] theorem emit_getField (e : Event) (s : State) (f : FieldRow) : (emit e s).getField f = s.getField f := rfl

/-! ## goto -/

@[simp] theorem goto_x (p : SeqPos) (s : State) : (goto p s).x = s.x := rfl
@[simp] theorem goto_shadowValid (p : SeqPos) (s : State) : (goto p s).shadowValid = s.shadowValid := rfl
@[simp] theorem goto_seqState (p : SeqPos) (s : State) : (goto p s).seqState = s.seqState := rfl
@[simp] theorem goto_outcome (p : SeqPos) (s : State) : (goto p s).outcome = s.outcome := rfl
@[simp] theorem goto_dropped (p : SeqPos) (s : State) : (goto p s).dropped = s.dropped := rfl
@[simp] theorem goto_busErr (p : SeqPos) (s : State) : (goto p s).busErr = s.busErr := rfl
@[simp] theorem goto_cwCur (p : SeqPos) (s : State) : (goto p s).cwCur = s.cwCur := rfl
@[simp] theorem goto_argCur (p : SeqPos) (s : State) : (goto p s).argCur = s.argCur := rfl
@[simp] theorem goto_arg (p : SeqPos) (s : State) : (goto p s).arg = s.arg := rfl
@[simp] theorem goto_result (p : SeqPos) (s : State) : (goto p s).result = s.result := rfl
@[simp] theorem goto_errCmd (p : SeqPos) (s : State) : (goto p s).errCmd = s.errCmd := rfl
@[simp] theorem goto_acc (p : SeqPos) (s : State) : (goto p s).acc = s.acc := rfl
@[simp] theorem goto_ident (p : SeqPos) (s : State) : (goto p s).ident = s.ident := rfl
@[simp] theorem goto_events (p : SeqPos) (s : State) : (goto p s).events = s.events := rfl
@[simp] theorem goto_bus (p : SeqPos) (s : State) : (goto p s).bus = s.bus := rfl
@[simp] theorem goto_pos (p : SeqPos) (s : State) : (goto p s).pos = p := rfl
@[simp] theorem goto_t0 (p : SeqPos) (s : State) : (goto p s).t0 = s.t0 := rfl
@[simp] theorem goto_polls (p : SeqPos) (s : State) : (goto p s).polls = s.polls := rfl
@[simp] theorem goto_tc (p : SeqPos) (s : State) : (goto p s).tc = s.tc := rfl
@[simp] theorem goto_env (p : SeqPos) (s : State) : (goto p s).env = s.env := rfl
@[simp] theorem goto_reg (p : SeqPos) (s : State) (i : BitVec 4) : (goto p s).reg i = s.reg i := rfl
@[simp] theorem goto_getField (p : SeqPos) (s : State) (f : FieldRow) : (goto p s).getField f = s.getField f := rfl

/-! ## tickNow -/

@[simp] theorem tickNow_x (s : State) : (s.tickNow).x = s.x := rfl
@[simp] theorem tickNow_shadowValid (s : State) : (s.tickNow).shadowValid = s.shadowValid := rfl
@[simp] theorem tickNow_seqState (s : State) : (s.tickNow).seqState = s.seqState := rfl
@[simp] theorem tickNow_outcome (s : State) : (s.tickNow).outcome = s.outcome := rfl
@[simp] theorem tickNow_dropped (s : State) : (s.tickNow).dropped = s.dropped := rfl
@[simp] theorem tickNow_busErr (s : State) : (s.tickNow).busErr = s.busErr := rfl
@[simp] theorem tickNow_cwCur (s : State) : (s.tickNow).cwCur = s.cwCur := rfl
@[simp] theorem tickNow_argCur (s : State) : (s.tickNow).argCur = s.argCur := rfl
@[simp] theorem tickNow_arg (s : State) : (s.tickNow).arg = s.arg := rfl
@[simp] theorem tickNow_result (s : State) : (s.tickNow).result = s.result := rfl
@[simp] theorem tickNow_errCmd (s : State) : (s.tickNow).errCmd = s.errCmd := rfl
@[simp] theorem tickNow_acc (s : State) : (s.tickNow).acc = s.acc := rfl
@[simp] theorem tickNow_ident (s : State) : (s.tickNow).ident = s.ident := rfl
@[simp] theorem tickNow_events (s : State) : (s.tickNow).events = s.events := rfl
@[simp] theorem tickNow_bus (s : State) : (s.tickNow).bus = s.bus := rfl
@[simp] theorem tickNow_pos (s : State) : (s.tickNow).pos = s.pos := rfl
@[simp] theorem tickNow_t0 (s : State) : (s.tickNow).t0 = s.t0 := rfl
@[simp] theorem tickNow_polls (s : State) : (s.tickNow).polls = s.polls := rfl
@[simp] theorem tickNow_tc (s : State) : (s.tickNow).tc = s.tc := rfl
@[simp] theorem tickNow_env (s : State) : (s.tickNow).env = s.env.popNow := rfl
@[simp] theorem tickNow_reg (s : State) (i : BitVec 4) : (s.tickNow).reg i = s.reg i := rfl
@[simp] theorem tickNow_getField (s : State) (f : FieldRow) : (s.tickNow).getField f = s.getField f := rfl

/-! ## delay -/

@[simp] theorem delay_x (d : Nat) (s : State) : (delay d s).x = s.x := rfl
@[simp] theorem delay_shadowValid (d : Nat) (s : State) : (delay d s).shadowValid = s.shadowValid := rfl
@[simp] theorem delay_seqState (d : Nat) (s : State) : (delay d s).seqState = s.seqState := rfl
@[simp] theorem delay_outcome (d : Nat) (s : State) : (delay d s).outcome = s.outcome := rfl
@[simp] theorem delay_dropped (d : Nat) (s : State) : (delay d s).dropped = s.dropped := rfl
@[simp] theorem delay_busErr (d : Nat) (s : State) : (delay d s).busErr = s.busErr := rfl
@[simp] theorem delay_cwCur (d : Nat) (s : State) : (delay d s).cwCur = s.cwCur := rfl
@[simp] theorem delay_argCur (d : Nat) (s : State) : (delay d s).argCur = s.argCur := rfl
@[simp] theorem delay_arg (d : Nat) (s : State) : (delay d s).arg = s.arg := rfl
@[simp] theorem delay_result (d : Nat) (s : State) : (delay d s).result = s.result := rfl
@[simp] theorem delay_errCmd (d : Nat) (s : State) : (delay d s).errCmd = s.errCmd := rfl
@[simp] theorem delay_acc (d : Nat) (s : State) : (delay d s).acc = s.acc := rfl
@[simp] theorem delay_ident (d : Nat) (s : State) : (delay d s).ident = s.ident := rfl
@[simp] theorem delay_events (d : Nat) (s : State) : (delay d s).events = s.events := rfl
@[simp] theorem delay_bus (d : Nat) (s : State) : (delay d s).bus = s.bus := rfl
@[simp] theorem delay_pos (d : Nat) (s : State) : (delay d s).pos = s.pos := rfl
@[simp] theorem delay_t0 (d : Nat) (s : State) : (delay d s).t0 = s.t0 := rfl
@[simp] theorem delay_polls (d : Nat) (s : State) : (delay d s).polls = s.polls := rfl
@[simp] theorem delay_tc (d : Nat) (s : State) : (delay d s).tc = s.tc := rfl
@[simp] theorem delay_env (d : Nat) (s : State) : (delay d s).env = s.env.afterDelay d := rfl
@[simp] theorem delay_reg (d : Nat) (s : State) (i : BitVec 4) : (delay d s).reg i = s.reg i := rfl
@[simp] theorem delay_getField (d : Nat) (s : State) (f : FieldRow) : (delay d s).getField f = s.getField f := rfl

/-! ## sampleT0 -/

@[simp] theorem sampleT0_x (s : State) : (sampleT0 s).x = s.x := rfl
@[simp] theorem sampleT0_shadowValid (s : State) : (sampleT0 s).shadowValid = s.shadowValid := rfl
@[simp] theorem sampleT0_seqState (s : State) : (sampleT0 s).seqState = s.seqState := rfl
@[simp] theorem sampleT0_outcome (s : State) : (sampleT0 s).outcome = s.outcome := rfl
@[simp] theorem sampleT0_dropped (s : State) : (sampleT0 s).dropped = s.dropped := rfl
@[simp] theorem sampleT0_busErr (s : State) : (sampleT0 s).busErr = s.busErr := rfl
@[simp] theorem sampleT0_cwCur (s : State) : (sampleT0 s).cwCur = s.cwCur := rfl
@[simp] theorem sampleT0_argCur (s : State) : (sampleT0 s).argCur = s.argCur := rfl
@[simp] theorem sampleT0_arg (s : State) : (sampleT0 s).arg = s.arg := rfl
@[simp] theorem sampleT0_result (s : State) : (sampleT0 s).result = s.result := rfl
@[simp] theorem sampleT0_errCmd (s : State) : (sampleT0 s).errCmd = s.errCmd := rfl
@[simp] theorem sampleT0_acc (s : State) : (sampleT0 s).acc = s.acc := rfl
@[simp] theorem sampleT0_ident (s : State) : (sampleT0 s).ident = s.ident := rfl
@[simp] theorem sampleT0_events (s : State) : (sampleT0 s).events = s.events := rfl
@[simp] theorem sampleT0_bus (s : State) : (sampleT0 s).bus = s.bus := rfl
@[simp] theorem sampleT0_pos (s : State) : (sampleT0 s).pos = s.pos := rfl
@[simp] theorem sampleT0_t0 (s : State) : (sampleT0 s).t0 = s.nowAnswer := rfl
@[simp] theorem sampleT0_polls (s : State) : (sampleT0 s).polls = s.polls := rfl
@[simp] theorem sampleT0_tc (s : State) : (sampleT0 s).tc = s.tc := rfl
@[simp] theorem sampleT0_env (s : State) : (sampleT0 s).env = s.env.popNow := rfl
@[simp] theorem sampleT0_reg (s : State) (i : BitVec 4) : (sampleT0 s).reg i = s.reg i := rfl
@[simp] theorem sampleT0_getField (s : State) (f : FieldRow) : (sampleT0 s).getField f = s.getField f := rfl

/-! ## sampleTc -/

@[simp] theorem sampleTc_x (s : State) : (sampleTc s).x = s.x := rfl
@[simp] theorem sampleTc_shadowValid (s : State) : (sampleTc s).shadowValid = s.shadowValid := rfl
@[simp] theorem sampleTc_seqState (s : State) : (sampleTc s).seqState = s.seqState := rfl
@[simp] theorem sampleTc_outcome (s : State) : (sampleTc s).outcome = s.outcome := rfl
@[simp] theorem sampleTc_dropped (s : State) : (sampleTc s).dropped = s.dropped := rfl
@[simp] theorem sampleTc_busErr (s : State) : (sampleTc s).busErr = s.busErr := rfl
@[simp] theorem sampleTc_cwCur (s : State) : (sampleTc s).cwCur = s.cwCur := rfl
@[simp] theorem sampleTc_argCur (s : State) : (sampleTc s).argCur = s.argCur := rfl
@[simp] theorem sampleTc_arg (s : State) : (sampleTc s).arg = s.arg := rfl
@[simp] theorem sampleTc_result (s : State) : (sampleTc s).result = s.result := rfl
@[simp] theorem sampleTc_errCmd (s : State) : (sampleTc s).errCmd = s.errCmd := rfl
@[simp] theorem sampleTc_acc (s : State) : (sampleTc s).acc = s.acc := rfl
@[simp] theorem sampleTc_ident (s : State) : (sampleTc s).ident = s.ident := rfl
@[simp] theorem sampleTc_events (s : State) : (sampleTc s).events = s.events := rfl
@[simp] theorem sampleTc_bus (s : State) : (sampleTc s).bus = s.bus := rfl
@[simp] theorem sampleTc_pos (s : State) : (sampleTc s).pos = s.pos := rfl
@[simp] theorem sampleTc_t0 (s : State) : (sampleTc s).t0 = s.t0 := rfl
@[simp] theorem sampleTc_polls (s : State) : (sampleTc s).polls = s.polls := rfl
@[simp] theorem sampleTc_tc (s : State) : (sampleTc s).tc = s.nowAnswer := rfl
@[simp] theorem sampleTc_env (s : State) : (sampleTc s).env = s.env.popNow := rfl
@[simp] theorem sampleTc_reg (s : State) (i : BitVec 4) : (sampleTc s).reg i = s.reg i := rfl
@[simp] theorem sampleTc_getField (s : State) (f : FieldRow) : (sampleTc s).getField f = s.getField f := rfl

/-! ## resetAccumulators -/

@[simp] theorem resetAccumulators_x (s : State) : (resetAccumulators s).x = s.x := rfl
@[simp] theorem resetAccumulators_shadowValid (s : State) : (resetAccumulators s).shadowValid = s.shadowValid := rfl
@[simp] theorem resetAccumulators_seqState (s : State) : (resetAccumulators s).seqState = s.seqState := rfl
@[simp] theorem resetAccumulators_outcome (s : State) : (resetAccumulators s).outcome = s.outcome := rfl
@[simp] theorem resetAccumulators_dropped (s : State) : (resetAccumulators s).dropped = s.dropped := rfl
@[simp] theorem resetAccumulators_busErr (s : State) : (resetAccumulators s).busErr = s.busErr := rfl
@[simp] theorem resetAccumulators_cwCur (s : State) : (resetAccumulators s).cwCur = s.cwCur := rfl
@[simp] theorem resetAccumulators_argCur (s : State) : (resetAccumulators s).argCur = s.argCur := rfl
@[simp] theorem resetAccumulators_arg (s : State) : (resetAccumulators s).arg = s.arg := rfl
@[simp] theorem resetAccumulators_result (s : State) : (resetAccumulators s).result = s.result := rfl
@[simp] theorem resetAccumulators_errCmd (s : State) : (resetAccumulators s).errCmd = s.errCmd := rfl
@[simp] theorem resetAccumulators_acc (s : State) : (resetAccumulators s).acc = .empty := rfl
@[simp] theorem resetAccumulators_ident (s : State) : (resetAccumulators s).ident = .empty := rfl
@[simp] theorem resetAccumulators_events (s : State) : (resetAccumulators s).events = s.events := rfl
@[simp] theorem resetAccumulators_bus (s : State) : (resetAccumulators s).bus = s.bus := rfl
@[simp] theorem resetAccumulators_pos (s : State) : (resetAccumulators s).pos = s.pos := rfl
@[simp] theorem resetAccumulators_t0 (s : State) : (resetAccumulators s).t0 = s.t0 := rfl
@[simp] theorem resetAccumulators_polls (s : State) : (resetAccumulators s).polls = s.polls := rfl
@[simp] theorem resetAccumulators_tc (s : State) : (resetAccumulators s).tc = s.tc := rfl
@[simp] theorem resetAccumulators_env (s : State) : (resetAccumulators s).env = s.env := rfl
@[simp] theorem resetAccumulators_reg (s : State) (i : BitVec 4) : (resetAccumulators s).reg i = s.reg i := rfl
@[simp] theorem resetAccumulators_getField (s : State) (f : FieldRow) : (resetAccumulators s).getField f = s.getField f := rfl

/-! ## setReg -/

@[simp] theorem setReg_x (s : State) (i : BitVec 4) (v : Word) : (s.setReg i v).x = s.x.set i.toNat v := rfl
@[simp] theorem setReg_shadowValid (s : State) (i : BitVec 4) (v : Word) : (s.setReg i v).shadowValid = s.shadowValid := rfl
@[simp] theorem setReg_seqState (s : State) (i : BitVec 4) (v : Word) : (s.setReg i v).seqState = s.seqState := rfl
@[simp] theorem setReg_outcome (s : State) (i : BitVec 4) (v : Word) : (s.setReg i v).outcome = s.outcome := rfl
@[simp] theorem setReg_dropped (s : State) (i : BitVec 4) (v : Word) : (s.setReg i v).dropped = s.dropped := rfl
@[simp] theorem setReg_busErr (s : State) (i : BitVec 4) (v : Word) : (s.setReg i v).busErr = s.busErr := rfl
@[simp] theorem setReg_cwCur (s : State) (i : BitVec 4) (v : Word) : (s.setReg i v).cwCur = s.cwCur := rfl
@[simp] theorem setReg_argCur (s : State) (i : BitVec 4) (v : Word) : (s.setReg i v).argCur = s.argCur := rfl
@[simp] theorem setReg_arg (s : State) (i : BitVec 4) (v : Word) : (s.setReg i v).arg = s.arg := rfl
@[simp] theorem setReg_result (s : State) (i : BitVec 4) (v : Word) : (s.setReg i v).result = s.result := rfl
@[simp] theorem setReg_errCmd (s : State) (i : BitVec 4) (v : Word) : (s.setReg i v).errCmd = s.errCmd := rfl
@[simp] theorem setReg_acc (s : State) (i : BitVec 4) (v : Word) : (s.setReg i v).acc = s.acc := rfl
@[simp] theorem setReg_ident (s : State) (i : BitVec 4) (v : Word) : (s.setReg i v).ident = s.ident := rfl
@[simp] theorem setReg_events (s : State) (i : BitVec 4) (v : Word) : (s.setReg i v).events = s.events := rfl
@[simp] theorem setReg_bus (s : State) (i : BitVec 4) (v : Word) : (s.setReg i v).bus = s.bus := rfl
@[simp] theorem setReg_pos (s : State) (i : BitVec 4) (v : Word) : (s.setReg i v).pos = s.pos := rfl
@[simp] theorem setReg_t0 (s : State) (i : BitVec 4) (v : Word) : (s.setReg i v).t0 = s.t0 := rfl
@[simp] theorem setReg_polls (s : State) (i : BitVec 4) (v : Word) : (s.setReg i v).polls = s.polls := rfl
@[simp] theorem setReg_tc (s : State) (i : BitVec 4) (v : Word) : (s.setReg i v).tc = s.tc := rfl
@[simp] theorem setReg_env (s : State) (i : BitVec 4) (v : Word) : (s.setReg i v).env = s.env := rfl

/-! ## setField -/

@[simp] theorem setField_x (s : State) (f : FieldRow) (a : Word) : (s.setField f a).x = s.x.set f.reg.toNat (f.set (s.reg f.reg) a) := rfl
@[simp] theorem setField_shadowValid (s : State) (f : FieldRow) (a : Word) : (s.setField f a).shadowValid = s.shadowValid := rfl
@[simp] theorem setField_seqState (s : State) (f : FieldRow) (a : Word) : (s.setField f a).seqState = s.seqState := rfl
@[simp] theorem setField_outcome (s : State) (f : FieldRow) (a : Word) : (s.setField f a).outcome = s.outcome := rfl
@[simp] theorem setField_dropped (s : State) (f : FieldRow) (a : Word) : (s.setField f a).dropped = s.dropped := rfl
@[simp] theorem setField_busErr (s : State) (f : FieldRow) (a : Word) : (s.setField f a).busErr = s.busErr := rfl
@[simp] theorem setField_cwCur (s : State) (f : FieldRow) (a : Word) : (s.setField f a).cwCur = s.cwCur := rfl
@[simp] theorem setField_argCur (s : State) (f : FieldRow) (a : Word) : (s.setField f a).argCur = s.argCur := rfl
@[simp] theorem setField_arg (s : State) (f : FieldRow) (a : Word) : (s.setField f a).arg = s.arg := rfl
@[simp] theorem setField_result (s : State) (f : FieldRow) (a : Word) : (s.setField f a).result = s.result := rfl
@[simp] theorem setField_errCmd (s : State) (f : FieldRow) (a : Word) : (s.setField f a).errCmd = s.errCmd := rfl
@[simp] theorem setField_acc (s : State) (f : FieldRow) (a : Word) : (s.setField f a).acc = s.acc := rfl
@[simp] theorem setField_ident (s : State) (f : FieldRow) (a : Word) : (s.setField f a).ident = s.ident := rfl
@[simp] theorem setField_events (s : State) (f : FieldRow) (a : Word) : (s.setField f a).events = s.events := rfl
@[simp] theorem setField_bus (s : State) (f : FieldRow) (a : Word) : (s.setField f a).bus = s.bus := rfl
@[simp] theorem setField_pos (s : State) (f : FieldRow) (a : Word) : (s.setField f a).pos = s.pos := rfl
@[simp] theorem setField_t0 (s : State) (f : FieldRow) (a : Word) : (s.setField f a).t0 = s.t0 := rfl
@[simp] theorem setField_polls (s : State) (f : FieldRow) (a : Word) : (s.setField f a).polls = s.polls := rfl
@[simp] theorem setField_tc (s : State) (f : FieldRow) (a : Word) : (s.setField f a).tc = s.tc := rfl
@[simp] theorem setField_env (s : State) (f : FieldRow) (a : Word) : (s.setField f a).env = s.env := rfl

/-! ## extractIdentity -/

@[simp] theorem extractIdentity_x (a b : Word) (s : State) : (extractIdentity a b s).x = s.x := rfl
@[simp] theorem extractIdentity_shadowValid (a b : Word) (s : State) : (extractIdentity a b s).shadowValid = s.shadowValid := rfl
@[simp] theorem extractIdentity_seqState (a b : Word) (s : State) : (extractIdentity a b s).seqState = s.seqState := rfl
@[simp] theorem extractIdentity_outcome (a b : Word) (s : State) : (extractIdentity a b s).outcome = s.outcome := rfl
@[simp] theorem extractIdentity_dropped (a b : Word) (s : State) : (extractIdentity a b s).dropped = s.dropped := rfl
@[simp] theorem extractIdentity_busErr (a b : Word) (s : State) : (extractIdentity a b s).busErr = s.busErr := rfl
@[simp] theorem extractIdentity_cwCur (a b : Word) (s : State) : (extractIdentity a b s).cwCur = s.cwCur := rfl
@[simp] theorem extractIdentity_argCur (a b : Word) (s : State) : (extractIdentity a b s).argCur = s.argCur := rfl
@[simp] theorem extractIdentity_arg (a b : Word) (s : State) : (extractIdentity a b s).arg = s.arg := rfl
@[simp] theorem extractIdentity_result (a b : Word) (s : State) : (extractIdentity a b s).result = s.result := rfl
@[simp] theorem extractIdentity_errCmd (a b : Word) (s : State) : (extractIdentity a b s).errCmd = s.errCmd := rfl
@[simp] theorem extractIdentity_acc (a b : Word) (s : State) : (extractIdentity a b s).acc = s.acc := rfl
@[simp] theorem extractIdentity_ident (a b : Word) (s : State) : (extractIdentity a b s).ident = ⟨true, a, b.extractLsb 9 5, b.extractLsb 10 10⟩ := rfl
@[simp] theorem extractIdentity_events (a b : Word) (s : State) : (extractIdentity a b s).events = s.events := rfl
@[simp] theorem extractIdentity_bus (a b : Word) (s : State) : (extractIdentity a b s).bus = s.bus := rfl
@[simp] theorem extractIdentity_pos (a b : Word) (s : State) : (extractIdentity a b s).pos = s.pos := rfl
@[simp] theorem extractIdentity_t0 (a b : Word) (s : State) : (extractIdentity a b s).t0 = s.t0 := rfl
@[simp] theorem extractIdentity_polls (a b : Word) (s : State) : (extractIdentity a b s).polls = s.polls := rfl
@[simp] theorem extractIdentity_tc (a b : Word) (s : State) : (extractIdentity a b s).tc = s.tc := rfl
@[simp] theorem extractIdentity_env (a b : Word) (s : State) : (extractIdentity a b s).env = s.env := rfl
@[simp] theorem extractIdentity_reg (a b : Word) (s : State) (i : BitVec 4) : (extractIdentity a b s).reg i = s.reg i := rfl
@[simp] theorem extractIdentity_getField (a b : Word) (s : State) (f : FieldRow) : (extractIdentity a b s).getField f = s.getField f := rfl

/-! ## afterRead -/

@[simp] theorem afterRead_x (b : List Byte) (s : State) : (afterRead b s).x = unrotate b := rfl
@[simp] theorem afterRead_shadowValid (b : List Byte) (s : State) : (afterRead b s).shadowValid = true := rfl
@[simp] theorem afterRead_seqState (b : List Byte) (s : State) : (afterRead b s).seqState = s.seqState := rfl
@[simp] theorem afterRead_outcome (b : List Byte) (s : State) : (afterRead b s).outcome = s.outcome := rfl
@[simp] theorem afterRead_dropped (b : List Byte) (s : State) : (afterRead b s).dropped = s.dropped := rfl
@[simp] theorem afterRead_busErr (b : List Byte) (s : State) : (afterRead b s).busErr = s.busErr := rfl
@[simp] theorem afterRead_cwCur (b : List Byte) (s : State) : (afterRead b s).cwCur = s.cwCur := rfl
@[simp] theorem afterRead_argCur (b : List Byte) (s : State) : (afterRead b s).argCur = s.argCur := rfl
@[simp] theorem afterRead_arg (b : List Byte) (s : State) : (afterRead b s).arg = s.arg := rfl
@[simp] theorem afterRead_result (b : List Byte) (s : State) : (afterRead b s).result = s.result := rfl
@[simp] theorem afterRead_errCmd (b : List Byte) (s : State) : (afterRead b s).errCmd = s.errCmd := rfl
@[simp] theorem afterRead_acc (b : List Byte) (s : State) : (afterRead b s).acc = s.acc := rfl
@[simp] theorem afterRead_ident (b : List Byte) (s : State) : (afterRead b s).ident = s.ident := rfl
@[simp] theorem afterRead_events (b : List Byte) (s : State) : (afterRead b s).events = s.events := rfl
@[simp] theorem afterRead_bus (b : List Byte) (s : State) : (afterRead b s).bus = s.bus ++ [.rd s.env.params.devAddr s.env.params.readCmd 32 (.bytes b)] := rfl
@[simp] theorem afterRead_pos (b : List Byte) (s : State) : (afterRead b s).pos = s.pos := rfl
@[simp] theorem afterRead_t0 (b : List Byte) (s : State) : (afterRead b s).t0 = s.t0 := rfl
@[simp] theorem afterRead_polls (b : List Byte) (s : State) : (afterRead b s).polls = s.polls := rfl
@[simp] theorem afterRead_tc (b : List Byte) (s : State) : (afterRead b s).tc = s.tc := rfl
@[simp] theorem afterRead_env (b : List Byte) (s : State) : (afterRead b s).env = s.env.popRead := rfl

/-! ## failedRead -/

@[simp] theorem failedRead_x (s : State) : (failedRead s).x = s.x := rfl
@[simp] theorem failedRead_shadowValid (s : State) : (failedRead s).shadowValid = s.shadowValid := rfl
@[simp] theorem failedRead_seqState (s : State) : (failedRead s).seqState = .halted := rfl
@[simp] theorem failedRead_outcome (s : State) : (failedRead s).outcome = .err .bus := rfl
@[simp] theorem failedRead_dropped (s : State) : (failedRead s).dropped = s.dropped := rfl
@[simp] theorem failedRead_busErr (s : State) : (failedRead s).busErr = true := rfl
@[simp] theorem failedRead_cwCur (s : State) : (failedRead s).cwCur = s.cwCur := rfl
@[simp] theorem failedRead_argCur (s : State) : (failedRead s).argCur = s.argCur := rfl
@[simp] theorem failedRead_arg (s : State) : (failedRead s).arg = s.arg := rfl
@[simp] theorem failedRead_result (s : State) : (failedRead s).result = s.result := rfl
@[simp] theorem failedRead_errCmd (s : State) : (failedRead s).errCmd = s.cwCur := rfl
@[simp] theorem failedRead_acc (s : State) : (failedRead s).acc = s.acc := rfl
@[simp] theorem failedRead_ident (s : State) : (failedRead s).ident = s.ident := rfl
@[simp] theorem failedRead_events (s : State) : (failedRead s).events = s.events := rfl
@[simp] theorem failedRead_bus (s : State) : (failedRead s).bus = s.bus ++ [.rd s.env.params.devAddr s.env.params.readCmd 32 .busError] := rfl
@[simp] theorem failedRead_pos (s : State) : (failedRead s).pos = .idle := rfl
@[simp] theorem failedRead_t0 (s : State) : (failedRead s).t0 = s.t0 := rfl
@[simp] theorem failedRead_polls (s : State) : (failedRead s).polls = s.polls := rfl
@[simp] theorem failedRead_tc (s : State) : (failedRead s).tc = s.tc := rfl
@[simp] theorem failedRead_env (s : State) : (failedRead s).env = s.env.popRead := rfl
@[simp] theorem failedRead_reg (s : State) (i : BitVec 4) : (failedRead s).reg i = s.reg i := rfl
@[simp] theorem failedRead_getField (s : State) (f : FieldRow) : (failedRead s).getField f = s.getField f := rfl

/-! ## afterWrite -/

@[simp] theorem afterWrite_x (s : State) : (afterWrite s).x = s.x := rfl
@[simp] theorem afterWrite_shadowValid (s : State) : (afterWrite s).shadowValid = s.shadowValid := rfl
@[simp] theorem afterWrite_seqState (s : State) : (afterWrite s).seqState = s.seqState := rfl
@[simp] theorem afterWrite_outcome (s : State) : (afterWrite s).outcome = s.outcome := rfl
@[simp] theorem afterWrite_dropped (s : State) : (afterWrite s).dropped = s.dropped := rfl
@[simp] theorem afterWrite_busErr (s : State) : (afterWrite s).busErr = s.busErr := rfl
@[simp] theorem afterWrite_cwCur (s : State) : (afterWrite s).cwCur = s.cwCur := rfl
@[simp] theorem afterWrite_argCur (s : State) : (afterWrite s).argCur = s.argCur := rfl
@[simp] theorem afterWrite_arg (s : State) : (afterWrite s).arg = s.arg := rfl
@[simp] theorem afterWrite_result (s : State) : (afterWrite s).result = s.result := rfl
@[simp] theorem afterWrite_errCmd (s : State) : (afterWrite s).errCmd = s.errCmd := rfl
@[simp] theorem afterWrite_acc (s : State) : (afterWrite s).acc = s.acc := rfl
@[simp] theorem afterWrite_ident (s : State) : (afterWrite s).ident = s.ident := rfl
@[simp] theorem afterWrite_events (s : State) : (afterWrite s).events = s.events := rfl
@[simp] theorem afterWrite_bus (s : State) : (afterWrite s).bus = s.bus ++ [.wr s.env.params.devAddr (writeImage s) .ok] := rfl
@[simp] theorem afterWrite_pos (s : State) : (afterWrite s).pos = s.pos := rfl
@[simp] theorem afterWrite_t0 (s : State) : (afterWrite s).t0 = s.t0 := rfl
@[simp] theorem afterWrite_polls (s : State) : (afterWrite s).polls = s.polls := rfl
@[simp] theorem afterWrite_tc (s : State) : (afterWrite s).tc = s.tc := rfl
@[simp] theorem afterWrite_env (s : State) : (afterWrite s).env = s.env.popWrite := rfl
@[simp] theorem afterWrite_reg (s : State) (i : BitVec 4) : (afterWrite s).reg i = s.reg i := rfl
@[simp] theorem afterWrite_getField (s : State) (f : FieldRow) : (afterWrite s).getField f = s.getField f := rfl

/-! ## failedWrite -/

@[simp] theorem failedWrite_x (s : State) : (failedWrite s).x = s.x := rfl
@[simp] theorem failedWrite_shadowValid (s : State) : (failedWrite s).shadowValid = s.shadowValid := rfl
@[simp] theorem failedWrite_seqState (s : State) : (failedWrite s).seqState = .halted := rfl
@[simp] theorem failedWrite_outcome (s : State) : (failedWrite s).outcome = .err .bus := rfl
@[simp] theorem failedWrite_dropped (s : State) : (failedWrite s).dropped = s.dropped := rfl
@[simp] theorem failedWrite_busErr (s : State) : (failedWrite s).busErr = true := rfl
@[simp] theorem failedWrite_cwCur (s : State) : (failedWrite s).cwCur = s.cwCur := rfl
@[simp] theorem failedWrite_argCur (s : State) : (failedWrite s).argCur = s.argCur := rfl
@[simp] theorem failedWrite_arg (s : State) : (failedWrite s).arg = s.arg := rfl
@[simp] theorem failedWrite_result (s : State) : (failedWrite s).result = s.result := rfl
@[simp] theorem failedWrite_errCmd (s : State) : (failedWrite s).errCmd = s.cwCur := rfl
@[simp] theorem failedWrite_acc (s : State) : (failedWrite s).acc = s.acc := rfl
@[simp] theorem failedWrite_ident (s : State) : (failedWrite s).ident = s.ident := rfl
@[simp] theorem failedWrite_events (s : State) : (failedWrite s).events = s.events := rfl
@[simp] theorem failedWrite_bus (s : State) : (failedWrite s).bus = s.bus ++ [.wr s.env.params.devAddr (writeImage s) .busError] := rfl
@[simp] theorem failedWrite_pos (s : State) : (failedWrite s).pos = .idle := rfl
@[simp] theorem failedWrite_t0 (s : State) : (failedWrite s).t0 = s.t0 := rfl
@[simp] theorem failedWrite_polls (s : State) : (failedWrite s).polls = s.polls := rfl
@[simp] theorem failedWrite_tc (s : State) : (failedWrite s).tc = s.tc := rfl
@[simp] theorem failedWrite_env (s : State) : (failedWrite s).env = s.env.popWrite := rfl
@[simp] theorem failedWrite_reg (s : State) (i : BitVec 4) : (failedWrite s).reg i = s.reg i := rfl
@[simp] theorem failedWrite_getField (s : State) (f : FieldRow) : (failedWrite s).getField f = s.getField f := rfl

/-! ## popAgenda -/

@[simp] theorem popAgenda_x (s : State) : (popAgenda s).x = s.x := rfl
@[simp] theorem popAgenda_shadowValid (s : State) : (popAgenda s).shadowValid = s.shadowValid := rfl
@[simp] theorem popAgenda_seqState (s : State) : (popAgenda s).seqState = s.seqState := rfl
@[simp] theorem popAgenda_outcome (s : State) : (popAgenda s).outcome = s.outcome := rfl
@[simp] theorem popAgenda_dropped (s : State) : (popAgenda s).dropped = s.dropped := rfl
@[simp] theorem popAgenda_busErr (s : State) : (popAgenda s).busErr = s.busErr := rfl
@[simp] theorem popAgenda_cwCur (s : State) : (popAgenda s).cwCur = s.cwCur := rfl
@[simp] theorem popAgenda_argCur (s : State) : (popAgenda s).argCur = s.argCur := rfl
@[simp] theorem popAgenda_arg (s : State) : (popAgenda s).arg = s.arg := rfl
@[simp] theorem popAgenda_result (s : State) : (popAgenda s).result = s.result := rfl
@[simp] theorem popAgenda_errCmd (s : State) : (popAgenda s).errCmd = s.errCmd := rfl
@[simp] theorem popAgenda_acc (s : State) : (popAgenda s).acc = s.acc := rfl
@[simp] theorem popAgenda_ident (s : State) : (popAgenda s).ident = s.ident := rfl
@[simp] theorem popAgenda_events (s : State) : (popAgenda s).events = s.events := rfl
@[simp] theorem popAgenda_bus (s : State) : (popAgenda s).bus = s.bus := rfl
@[simp] theorem popAgenda_pos (s : State) : (popAgenda s).pos = s.pos := rfl
@[simp] theorem popAgenda_t0 (s : State) : (popAgenda s).t0 = s.t0 := rfl
@[simp] theorem popAgenda_polls (s : State) : (popAgenda s).polls = s.polls := rfl
@[simp] theorem popAgenda_tc (s : State) : (popAgenda s).tc = s.tc := rfl
@[simp] theorem popAgenda_env (s : State) : (popAgenda s).env = { s.env with agenda := s.env.agenda.tail } := rfl
@[simp] theorem popAgenda_reg (s : State) (i : BitVec 4) : (popAgenda s).reg i = s.reg i := rfl
@[simp] theorem popAgenda_getField (s : State) (f : FieldRow) : (popAgenda s).getField f = s.getField f := rfl

/-! ## Env.popRead -/

@[simp] theorem popRead_params (e : Env) : (e.popRead).params = e.params := rfl
@[simp] theorem popRead_readScript (e : Env) : (e.popRead).readScript = e.readScript.tail := rfl
@[simp] theorem popRead_writeScript (e : Env) : (e.popRead).writeScript = e.writeScript := rfl
@[simp] theorem popRead_slackScript (e : Env) : (e.popRead).slackScript = e.slackScript := rfl
@[simp] theorem popRead_readDraws (e : Env) : (e.popRead).readDraws = e.readDraws + 1 := rfl
@[simp] theorem popRead_writeDraws (e : Env) : (e.popRead).writeDraws = e.writeDraws := rfl
@[simp] theorem popRead_nowDraws (e : Env) : (e.popRead).nowDraws = e.nowDraws := rfl
@[simp] theorem popRead_clock (e : Env) : (e.popRead).clock = e.clock := rfl
@[simp] theorem popRead_agenda (e : Env) : (e.popRead).agenda = e.agenda := rfl
@[simp] theorem popRead_hostReads (e : Env) : (e.popRead).hostReads = e.hostReads := rfl

/-! ## Env.popWrite -/

@[simp] theorem popWrite_params (e : Env) : (e.popWrite).params = e.params := rfl
@[simp] theorem popWrite_readScript (e : Env) : (e.popWrite).readScript = e.readScript := rfl
@[simp] theorem popWrite_writeScript (e : Env) : (e.popWrite).writeScript = e.writeScript.tail := rfl
@[simp] theorem popWrite_slackScript (e : Env) : (e.popWrite).slackScript = e.slackScript := rfl
@[simp] theorem popWrite_readDraws (e : Env) : (e.popWrite).readDraws = e.readDraws := rfl
@[simp] theorem popWrite_writeDraws (e : Env) : (e.popWrite).writeDraws = e.writeDraws + 1 := rfl
@[simp] theorem popWrite_nowDraws (e : Env) : (e.popWrite).nowDraws = e.nowDraws := rfl
@[simp] theorem popWrite_clock (e : Env) : (e.popWrite).clock = e.clock := rfl
@[simp] theorem popWrite_agenda (e : Env) : (e.popWrite).agenda = e.agenda := rfl
@[simp] theorem popWrite_hostReads (e : Env) : (e.popWrite).hostReads = e.hostReads := rfl

/-! ## Env.popNow -/

@[simp] theorem popNow_params (e : Env) : (e.popNow).params = e.params := rfl
@[simp] theorem popNow_readScript (e : Env) : (e.popNow).readScript = e.readScript := rfl
@[simp] theorem popNow_writeScript (e : Env) : (e.popNow).writeScript = e.writeScript := rfl
@[simp] theorem popNow_slackScript (e : Env) : (e.popNow).slackScript = e.slackScript.tail := rfl
@[simp] theorem popNow_readDraws (e : Env) : (e.popNow).readDraws = e.readDraws := rfl
@[simp] theorem popNow_writeDraws (e : Env) : (e.popNow).writeDraws = e.writeDraws := rfl
@[simp] theorem popNow_nowDraws (e : Env) : (e.popNow).nowDraws = e.nowDraws + 1 := rfl
@[simp] theorem popNow_clock (e : Env) : (e.popNow).clock = some e.nowAnswer := rfl
@[simp] theorem popNow_agenda (e : Env) : (e.popNow).agenda = e.agenda := rfl
@[simp] theorem popNow_hostReads (e : Env) : (e.popNow).hostReads = e.hostReads := rfl

/-! ## Env.afterDelay -/

@[simp] theorem afterDelay_params (d : Nat) (e : Env) : (e.afterDelay d).params = e.params := rfl
@[simp] theorem afterDelay_readScript (d : Nat) (e : Env) : (e.afterDelay d).readScript = e.readScript := rfl
@[simp] theorem afterDelay_writeScript (d : Nat) (e : Env) : (e.afterDelay d).writeScript = e.writeScript := rfl
@[simp] theorem afterDelay_slackScript (d : Nat) (e : Env) : (e.afterDelay d).slackScript = e.slackScript := rfl
@[simp] theorem afterDelay_readDraws (d : Nat) (e : Env) : (e.afterDelay d).readDraws = e.readDraws := rfl
@[simp] theorem afterDelay_writeDraws (d : Nat) (e : Env) : (e.afterDelay d).writeDraws = e.writeDraws := rfl
@[simp] theorem afterDelay_nowDraws (d : Nat) (e : Env) : (e.afterDelay d).nowDraws = e.nowDraws := rfl
@[simp] theorem afterDelay_clock (d : Nat) (e : Env) : (e.afterDelay d).clock = e.clock.map (· + d) := rfl
@[simp] theorem afterDelay_agenda (d : Nat) (e : Env) : (e.afterDelay d).agenda = e.agenda := rfl
@[simp] theorem afterDelay_hostReads (d : Nat) (e : Env) : (e.afterDelay d).hostReads = e.hostReads := rfl

/-! ## accWrite: everything but the accumulators -/

@[simp] theorem accWrite_x (acc : AccId) (flag : BufId) (seg : Nat) (cs : List Byte) (s : State) :
    (accWrite acc flag seg cs s).x = s.x := by cases acc <;> rfl
@[simp] theorem accWrite_shadowValid (acc : AccId) (flag : BufId) (seg : Nat) (cs : List Byte) (s : State) :
    (accWrite acc flag seg cs s).shadowValid = s.shadowValid := by cases acc <;> rfl
@[simp] theorem accWrite_seqState (acc : AccId) (flag : BufId) (seg : Nat) (cs : List Byte) (s : State) :
    (accWrite acc flag seg cs s).seqState = s.seqState := by cases acc <;> rfl
@[simp] theorem accWrite_outcome (acc : AccId) (flag : BufId) (seg : Nat) (cs : List Byte) (s : State) :
    (accWrite acc flag seg cs s).outcome = s.outcome := by cases acc <;> rfl
@[simp] theorem accWrite_dropped (acc : AccId) (flag : BufId) (seg : Nat) (cs : List Byte) (s : State) :
    (accWrite acc flag seg cs s).dropped = s.dropped := by cases acc <;> rfl
@[simp] theorem accWrite_busErr (acc : AccId) (flag : BufId) (seg : Nat) (cs : List Byte) (s : State) :
    (accWrite acc flag seg cs s).busErr = s.busErr := by cases acc <;> rfl
@[simp] theorem accWrite_cwCur (acc : AccId) (flag : BufId) (seg : Nat) (cs : List Byte) (s : State) :
    (accWrite acc flag seg cs s).cwCur = s.cwCur := by cases acc <;> rfl
@[simp] theorem accWrite_argCur (acc : AccId) (flag : BufId) (seg : Nat) (cs : List Byte) (s : State) :
    (accWrite acc flag seg cs s).argCur = s.argCur := by cases acc <;> rfl
@[simp] theorem accWrite_arg (acc : AccId) (flag : BufId) (seg : Nat) (cs : List Byte) (s : State) :
    (accWrite acc flag seg cs s).arg = s.arg := by cases acc <;> rfl
@[simp] theorem accWrite_result (acc : AccId) (flag : BufId) (seg : Nat) (cs : List Byte) (s : State) :
    (accWrite acc flag seg cs s).result = s.result := by cases acc <;> rfl
@[simp] theorem accWrite_errCmd (acc : AccId) (flag : BufId) (seg : Nat) (cs : List Byte) (s : State) :
    (accWrite acc flag seg cs s).errCmd = s.errCmd := by cases acc <;> rfl
@[simp] theorem accWrite_ident (acc : AccId) (flag : BufId) (seg : Nat) (cs : List Byte) (s : State) :
    (accWrite acc flag seg cs s).ident = s.ident := by cases acc <;> rfl
@[simp] theorem accWrite_events (acc : AccId) (flag : BufId) (seg : Nat) (cs : List Byte) (s : State) :
    (accWrite acc flag seg cs s).events = s.events := by cases acc <;> rfl
@[simp] theorem accWrite_bus (acc : AccId) (flag : BufId) (seg : Nat) (cs : List Byte) (s : State) :
    (accWrite acc flag seg cs s).bus = s.bus := by cases acc <;> rfl
@[simp] theorem accWrite_pos (acc : AccId) (flag : BufId) (seg : Nat) (cs : List Byte) (s : State) :
    (accWrite acc flag seg cs s).pos = s.pos := by cases acc <;> rfl
@[simp] theorem accWrite_t0 (acc : AccId) (flag : BufId) (seg : Nat) (cs : List Byte) (s : State) :
    (accWrite acc flag seg cs s).t0 = s.t0 := by cases acc <;> rfl
@[simp] theorem accWrite_polls (acc : AccId) (flag : BufId) (seg : Nat) (cs : List Byte) (s : State) :
    (accWrite acc flag seg cs s).polls = s.polls := by cases acc <;> rfl
@[simp] theorem accWrite_tc (acc : AccId) (flag : BufId) (seg : Nat) (cs : List Byte) (s : State) :
    (accWrite acc flag seg cs s).tc = s.tc := by cases acc <;> rfl
@[simp] theorem accWrite_env (acc : AccId) (flag : BufId) (seg : Nat) (cs : List Byte) (s : State) :
    (accWrite acc flag seg cs s).env = s.env := by cases acc <;> rfl

end Sys2Proof.Machine
end

