-- ==== Sys2Proof/Laws/Ops.lean ====
section
/-! SUPPORT. What each shared operation can do, said once: the two bus transactions, the deadline test, acceptance, and
reading and writing registers and fields. -/

namespace Sys2Proof.Machine

/-! ## Oracle answers -/

/-- A read answer counts only with exactly 32 bytes (20_memory.md R66). -/
theorem payload_eq_some {a : Config.ReadAnswer} {b : List Byte} :
    payload a = some b ↔ a = .bytes b ∧ b.length = 32 := by
  cases a with
  | busError => simp [payload]
  | bytes c =>
    simp only [payload]
    split
    · next h => simp; rintro rfl; exact h
    · next h => simp; rintro rfl; exact h

theorem payload_bytes {b : List Byte} (h : b.length = 32) : payload (.bytes b) = some b := by simp [payload, h]

@[simp] theorem payload_busError : payload .busError = none := rfl

theorem nowBound_le_nowAnswer (e : Env) : e.nowBound ≤ e.nowAnswer := Nat.le_add_right _ _

@[simp] theorem nowBound_le_state_nowAnswer (s : State) : s.env.nowBound ≤ s.nowAnswer := nowBound_le_nowAnswer _

/-- After a `Now()` its answer is the bound of the next (R290 (1)). -/
@[simp] theorem popNow_nowBound (e : Env) : e.popNow.nowBound = e.nowAnswer := rfl

/-- A delay never lowers the bound of the time law. -/
theorem nowBound_le_afterDelay (d : Nat) (e : Env) : e.nowBound ≤ (e.afterDelay d).nowBound := by
  unfold Env.nowBound Env.afterDelay
  cases e.clock <;> simp

/-- Once a `Now()` has answered, a delay raises the bound by its length (R290 (2)). -/
theorem nowBound_afterDelay {e : Env} {c : Nat} (d : Nat) (h : e.clock = some c) :
    (e.afterDelay d).nowBound = e.nowBound + d := by
  simp [Env.nowBound, Env.afterDelay, h]

/-! ## The two bus transactions -/

/-- A read goes on with its continuation when 32 bytes arrive, and fails otherwise (R61, R286). -/
theorem readAll_cases (k : State → State) (s : State) :
    (∃ b, s.env.peekRead = .bytes b ∧ b.length = 32 ∧ readAll k s = k (afterRead b s)) ∨
      (payload s.env.peekRead = none ∧ readAll k s = failedRead s) := by
  unfold readAll
  cases h : payload s.env.peekRead with
  | none => exact .inr ⟨rfl, rfl⟩
  | some b =>
    obtain ⟨h1, h2⟩ := payload_eq_some.1 h
    exact .inl ⟨b, h1, h2, rfl⟩

theorem readAll_ok {s : State} {b : List Byte} (k : State → State) (h : s.env.peekRead = .bytes b)
    (hl : b.length = 32) : readAll k s = k (afterRead b s) := by
  simp [readAll, h, payload_bytes hl]

theorem readAll_fail {s : State} (k : State → State) (h : payload s.env.peekRead = none) :
    readAll k s = failedRead s := by
  simp [readAll, h]

/-- A write goes on with its continuation when it is answered `Ok`, and fails otherwise (R61, R286). -/
theorem writeCfg_cases (k : State → State) (s : State) :
    (s.env.peekWrite = .ok ∧ writeCfg k s = k (afterWrite s)) ∨
      (s.env.peekWrite = .busError ∧ writeCfg k s = failedWrite s) := by
  unfold writeCfg
  cases s.env.peekWrite <;> simp

theorem writeCfg_ok {s : State} (k : State → State) (h : s.env.peekWrite = .ok) :
    writeCfg k s = k (afterWrite s) := by
  simp [writeCfg, h]

theorem writeCfg_fail {s : State} (k : State → State) (h : s.env.peekWrite = .busError) :
    writeCfg k s = failedWrite s := by
  simp [writeCfg, h]

/-- A deadline test goes one way or the other, one `Now()` later (R290). -/
theorem deadline_cases (start len : Nat) (expired running : State → State) (s : State) :
    (start + len ≤ s.nowAnswer ∧ deadline start len expired running s = expired s.tickNow) ∨
      (s.nowAnswer < start + len ∧ deadline start len expired running s = running s.tickNow) := by
  unfold deadline
  split
  · next h => exact .inl ⟨h, rfl⟩
  · next h => exact .inr ⟨Nat.lt_of_not_le h, rfl⟩

/-! ## Acceptance -/

/-- Acceptance latches the word and ARG; it leaves an error pending or enters the command (R38, R283, R170). -/
theorem accept_cases (w : Word) (s : State) :
    (∃ e, check w s.seqState = .error e ∧ accept w s = { s with cwCur := w, argCur := s.arg, pos := .reject e }) ∨
      (∃ i, check w s.seqState = .ok i ∧
        accept w s = { s with cwCur := w, argCur := s.arg, pos := .start, seqState := enteredState i s.seqState }) := by
  unfold accept
  cases h : check w s.seqState with
  | error e => exact .inl ⟨e, rfl, rfl⟩
  | ok i => exact .inr ⟨i, rfl, rfl⟩

/-- A word passes the checks exactly when the block is not halted, the word decodes and its command is legal (R283). -/
theorem check_eq_ok {w : Word} {st : SeqState} {i : Instr} :
    check w st = .ok i ↔ st ≠ .halted ∧ decode w = .command i ∧ legalIn i st = true := by
  unfold check
  by_cases hh : st = .halted
  · simp [hh]
  · simp only [hh, if_false, ne_eq, not_false_eq_true, true_and]
    cases hd : decode w with
    | rejected e => cases e <;> simp
    | command j =>
      by_cases hl : legalIn j st = true <;> simp [hl]
      · rintro rfl; exact hl
      · rintro rfl; simpa using hl

/-- The errors of the common checks (R283 (1) to (4)). -/
theorem check_error_cases {w : Word} {st : SeqState} {e : ErrCode} (h : check w st = .error e) :
    e = .illegalState ∨ e = .illegalOpcode ∨ e = .reservedBits := by
  unfold check at h
  split at h
  · exact .inl (by simpa using h.symm)
  · split at h
    · exact .inr (.inl (by simpa using h.symm))
    · exact .inr (.inr (by simpa using h.symm))
    · split at h
      · simp at h
      · exact .inl (by simpa using h.symm)

/-! ## Registers and fields -/

/-- Reading a register after writing one (00_scope.md R8). -/
theorem reg_setReg (s : State) (i j : BitVec 4) (v : Word) :
    (s.setReg i v).reg j = if i = j then v else s.reg j := by
  simp only [State.reg, State.setReg, Vector.getElem_set, BitVec.toNat_inj]

@[simp] theorem reg_setReg_self (s : State) (i : BitVec 4) (v : Word) : (s.setReg i v).reg i = v := by
  simp [reg_setReg]

/-- Reading a register after writing a field (R141). -/
theorem reg_setField (s : State) (f : FieldRow) (a : Word) (j : BitVec 4) :
    (s.setField f a).reg j = if f.reg = j then f.set (s.reg f.reg) a else s.reg j := by
  simp only [State.setField, reg_setReg]

/-- The registers a read leaves: register `(0x0A + j) mod 16` is the j-th pair of the stream (R62). -/
theorem reg_afterRead (b : List Byte) (s : State) (i : BitVec 4) :
    (afterRead b s).reg i = wordAt b ((i.toNat + 6) % 16) := by
  simp [State.reg, afterRead, unrotate]

@[simp] theorem writeImage_length (s : State) : (writeImage s).length = 12 := rfl

end Sys2Proof.Machine
end

