-- ==== Sys2Proof/Laws/PerInstr.lean ====
section
/-! SUPPORT. The per-instruction family `EncodesInItsRow`: the word of a command matches its row of the opcode map, that
is `(CW & mask) == match` (30_encoding.md R93), one lemma per constructor of Instr. -/

namespace Sys2Proof.Laws.EncodesInItsRow

/-- The word of the command lies in the row of the opcode map that its own OP selects (R93). -/
def Statement (i : Instr) : Prop :=
  ∃ row, opTable[(opcodeOf (encode i)).toNat]? = some row ∧ encode i &&& row.mask = row.base

theorem nop : Statement .nop := ⟨⟨0xFFFF, 0x0000⟩, by decide⟩
theorem readAll : Statement .readAll := ⟨⟨0xFFFF, 0x0800⟩, by decide⟩
theorem writeCfg : Statement .writeCfg := ⟨⟨0xFFFF, 0x1000⟩, by decide⟩
theorem shadowRd (idx : BitVec 4) : Statement (.shadowRd idx) := ⟨⟨0xFFF0, 0x1800⟩, by revert idx; decide⟩
theorem shadowWr (idx : BitVec 4) : Statement (.shadowWr idx) := ⟨⟨0xFFF0, 0x2000⟩, by revert idx; decide⟩
theorem fieldGet (fid : BitVec 6) : Statement (.fieldGet fid) := ⟨⟨0xFFC0, 0x2800⟩, by revert fid; decide⟩
theorem fieldSet (fid : BitVec 6) : Statement (.fieldSet fid) := ⟨⟨0xFFC0, 0x3000⟩, by revert fid; decide⟩
theorem fieldExtract (fid : BitVec 6) : Statement (.fieldExtract fid) := ⟨⟨0xFFC0, 0x3800⟩, by revert fid; decide⟩
theorem powerUp : Statement .powerUp := ⟨⟨0xFFFF, 0x4000⟩, by decide⟩
theorem powerDown : Statement .powerDown := ⟨⟨0xFFFF, 0x4800⟩, by decide⟩
theorem seek (mode up : BitVec 1) : Statement (.seek mode up) := ⟨⟨0xFFFC, 0x5000⟩, by revert mode up; decide⟩
theorem tune : Statement .tune := ⟨⟨0xFFFF, 0x5800⟩, by decide⟩
theorem rdsDecode : Statement .rdsDecode := ⟨⟨0xFFFF, 0x6000⟩, by decide⟩
theorem rdsCapture (fen : Bool) (gt : BitVec 4) (gv : GroupVer) : Statement (.rdsCapture fen gt gv) :=
  ⟨⟨0xFFC0, 0x6800⟩, by revert fen gt; cases gv <;> decide⟩
theorem rdsReset : Statement .rdsReset := ⟨⟨0xFFFF, 0x7000⟩, by decide⟩
theorem accRd (acc : AccId) (buf : BufId) (slot : BitVec 6) : Statement (.accRd acc buf slot) :=
  ⟨⟨0xF8C0, 0x7800⟩, by revert slot; cases acc <;> cases buf <;> decide⟩
theorem accRecv (acc : AccId) (buf : BufId) : Statement (.accRecv acc buf) :=
  ⟨⟨0xF8FF, 0x8000⟩, by cases acc <;> cases buf <;> decide⟩
theorem accCur (acc : AccId) : Statement (.accCur acc) := ⟨⟨0xF9FF, 0x8800⟩, by cases acc <;> decide⟩
theorem idRd (sel : IdSel) : Statement (.idRd sel) := ⟨⟨0xFFFE, 0x9000⟩, by cases sel <;> decide⟩

end Sys2Proof.Laws.EncodesInItsRow
end

