-- ==== Sys2Proof/Laws/Rds.lean ====
section
/-! SUPPORT. What the group decoder can change: the identity, one accumulator, and at most one event more; nothing else
(43_rds_decoder.md R213). -/

namespace Sys2Proof.Machine

/-- A group rule changes the accumulators and appends at most one event; the rest of the state it leaves (R212). -/
theorem dispatchGroup_shape (a b c d : Word) (s : State) :
    ∃ acc es, es.length ≤ 1 ∧ dispatchGroup a b c d s = { s with acc := acc, events := s.events ++ es } := by
  have accW : ∀ (i : AccId) (f : BufId) (n : Nat) (cs : List Byte),
      ∃ acc es, es.length ≤ 1 ∧ accWrite i f n cs s = { s with acc := acc, events := s.events ++ es } := by
    intro i f n cs
    cases i <;> exact ⟨_, [], by simp, by simp [accWrite]; rfl⟩
  have em : ∀ e : Event, ∃ acc es, es.length ≤ 1 ∧ emit e s = { s with acc := acc, events := s.events ++ es } :=
    fun e => ⟨s.acc, [e], by simp, rfl⟩
  unfold dispatchGroup
  split
  · exact ⟨_, [_], by simp, rfl⟩
  · exact em _
  · exact accW _ _ _ _
  · exact em _
  · unfold group4A emitClock
    split
    · exact em _
    · exact ⟨s.acc, [], by simp, by simp⟩
  · exact accW _ _ _ _
  · exact accW _ _ _ _
  · exact em _
  · exact em _

/-- One decode changes the identity, the accumulators, and appends at most one event (R213, R217). -/
theorem decodeBlocks_shape (a b c d : Word) (s : State) :
    ∃ acc es, es.length ≤ 1 ∧ decodeBlocks a b c d s =
      { s with acc := acc, events := s.events ++ es,
               ident := ⟨true, a, b.extractLsb 9 5, b.extractLsb 10 10⟩ } := by
  obtain ⟨acc, es, h1, h2⟩ := dispatchGroup_shape a b c d (extractIdentity a b s)
  exact ⟨acc, es, h1, h2⟩

/-- The other buffer of an accumulator survives a write (R229, R232 (2)). -/
theorem write_other_buf {w segs : Nat} (acc : Accum w segs) (flag g : BufId) (seg : Nat) (cs : List Byte)
    (h : g ≠ flag) : (acc.write flag seg cs).buf g = acc.buf g := by
  unfold Accum.write
  cases flag <;> cases g <;> simp_all [Accum.buf, Accum.setBuf] <;> split <;> rfl

/-- A write leaves the flag at the incoming one (R229). -/
@[simp] theorem write_cur {w segs : Nat} (acc : Accum w segs) (flag : BufId) (seg : Nat) (cs : List Byte) :
    (acc.write flag seg cs).cur = flag := by
  unfold Accum.write
  split
  · next h => cases flag <;> simp_all [Accum.setBuf]
  · rfl

end Sys2Proof.Machine
end

