-- ==== Sys2Proof/Laws/Sequences.lean ====
section
/-! SUPPORT. What the shared parts of the commands can do, said once: the positions that are no command's own, the exit
tests of the three poll loops, and the status flags as bits of the Status register. -/

namespace Sys2Proof.Machine

/-! ## Positions that are no command's own -/

/-- A command with an error pending completes with it, whatever the command (60_exceptions.md R282). -/
theorem exec_of_reject (i : Instr) {s : State} {e : ErrCode} (h : s.pos = .reject e) : exec i s = .next (raise e s) := by
  cases i <;>
    simp [exec, execNop, execReadAll, execWriteCfg, execShadowRd, execShadowWr, execFieldGet, execFieldSet,
      execFieldExtract, execPowerUp, execPowerDown, execSeek, execTune, execRdsDecode, execRdsCapture, execRdsReset,
      execAccRd, execAccRecv, execAccCur, execIdRd, offSequence, h]

/-- With no command running, the meaning of a command is its acceptance (10_state.md R38). -/
theorem exec_of_idle (i : Instr) {s : State} (h : s.pos = .idle) : exec i s = .next (accept (encode i) s) := by
  cases i <;>
    simp [exec, execNop, execReadAll, execWriteCfg, execShadowRd, execShadowWr, execFieldGet, execFieldSet,
      execFieldExtract, execPowerUp, execPowerDown, execSeek, execTune, execRdsDecode, execRdsCapture, execRdsReset,
      execAccRd, execAccRecv, execAccCur, execIdRd, offSequence, h]

/-- Everything `offSequence` can answer with a next state. -/
theorem offSequence_cases {i : Instr} {s t : State} (h : offSequence i s = .next t) :
    (s.pos = .idle ∧ t = accept (encode i) s) ∨ ∃ e, s.pos = .reject e ∧ t = raise e s := by
  unfold offSequence at h
  split at h
  · exact .inl ⟨by assumption, (Host.Outcome.next.inj h).symm⟩
  · exact .inr ⟨_, by assumption, (Host.Outcome.next.inj h).symm⟩
  · cases h

/-! ## The status flags -/

/-- A one-bit field is 1 exactly when its bit is set. -/
theorem and_twoPow_shift (v : Word) (k : Nat) (hk : k < 16) :
    decide ((v &&& BitVec.twoPow 16 k) >>> k = 1) = v.getLsbD k := by
  rw [BitVec.and_twoPow]
  cases h : v.getLsbD k with
  | false => simp
  | true =>
    have : (BitVec.twoPow 16 k) >>> k = 1 := by
      apply BitVec.eq_of_toNat_eq
      rw [BitVec.toNat_ushiftRight, BitVec.toNat_twoPow, Nat.shiftRight_eq_div_pow,
        Nat.mod_eq_of_lt (Nat.pow_lt_pow_right (by decide) hk), Nat.div_self (Nat.two_pow_pos k)]
      rfl
    simp [this]

/-- RDSR is bit 15 of Status (10_state.md R31). -/
theorem rdsr_eq (s : State) : s.rdsr = (s.reg 0xA).getLsbD 15 := and_twoPow_shift _ 15 (by decide)

/-- STC is bit 14 of Status (R31). -/
theorem stc_eq (s : State) : s.stc = (s.reg 0xA).getLsbD 14 := and_twoPow_shift _ 14 (by decide)

/-- SFBL is bit 13 of Status (R31). -/
theorem sfbl_eq (s : State) : s.sfbl = (s.reg 0xA).getLsbD 13 := and_twoPow_shift _ 13 (by decide)

/-- The status flags after a read are bits 7, 6 and 5 of its first byte (20_memory.md R62). -/
theorem flags_afterRead (b : List Byte) (s : State) :
    (afterRead b s).rdsr = (b.getD 0 0).getLsbD 7 ∧ (afterRead b s).stc = (b.getD 0 0).getLsbD 6 ∧
      (afterRead b s).sfbl = (b.getD 0 0).getLsbD 5 := by
  rw [rdsr_eq, stc_eq, sfbl_eq, reg_afterRead]
  have app : ∀ x y : Byte, ∀ k, k < 8 → (x ++ y : Word).getLsbD (8 + k) = x.getLsbD k := by
    intro x y k _
    simp only [BitVec.getLsbD_append, Nat.not_lt.2 (Nat.le_add_right 8 k), if_false, Nat.add_sub_cancel_left]
  exact ⟨app _ _ 7 (by decide), app _ _ 6 (by decide), app _ _ 5 (by decide)⟩

/-- A poll loop's outcome is OK, NOT_FOUND or HW_TIMEOUT (42_tuning_fsm.md R178). -/
theorem isPollOutcome_pollOutcome (s : State) : isPollOutcome s.pollOutcome = true := by
  unfold State.pollOutcome
  cases s.stc <;> cases s.sfbl <;> rfl

/-! ## The exit tests of the poll loops -/

/-- The tune loop counts the poll and ends or delays (42_tuning_fsm.md R175). -/
theorem tuneTest_cases (s : State) :
    ((s.stc ∨ s.sfbl ∨ s.polls + 1 = s.env.params.nTunePolls) ∧
        tuneTest s = { s with polls := s.polls + 1, pos := .tuneExit s.pollOutcome }) ∨
      (¬(s.stc ∨ s.sfbl ∨ s.polls + 1 = s.env.params.nTunePolls) ∧
        tuneTest s = { s with polls := s.polls + 1, pos := .tuneDelay }) := by
  unfold tuneTest
  split
  · exact .inl ⟨by assumption, rfl⟩
  · exact .inr ⟨by assumption, rfl⟩

/-- The seek loop ends on STC, ends on the deadline, or delays (42_tuning_fsm.md R176). -/
theorem seekTest_cases (s : State) :
    (s.stc = true ∧ seekTest s = goto (.seekExit s.pollOutcome) s) ∨
      (s.stc = false ∧ s.t0 + s.env.params.tSeekMs ≤ s.nowAnswer ∧ seekTest s = goto (.seekExit s.pollOutcome) s.tickNow) ∨
      (s.stc = false ∧ s.nowAnswer < s.t0 + s.env.params.tSeekMs ∧ seekTest s = goto .seekDelay s.tickNow) := by
  unfold seekTest
  cases h : s.stc with
  | true => exact .inl ⟨rfl, rfl⟩
  | false =>
    rcases deadline_cases s.t0 s.env.params.tSeekMs (goto (.seekExit s.pollOutcome)) (goto .seekDelay) s with ⟨h1, h2⟩ | ⟨h1, h2⟩
    · exact .inr (.inl ⟨rfl, h1, by simp only [Bool.false_eq_true, if_false, h2]⟩)
    · exact .inr (.inr ⟨rfl, h1, by simp only [Bool.false_eq_true, if_false, h2]⟩)

/-- The fetch loop ends with a group, ends on the deadline, or delays (43_rds_decoder.md R210). -/
theorem fetchTest_cases (group none : State → State) (s : State) :
    (s.rdsr = true ∧ fetchTest group none s = group s) ∨
      (s.rdsr = false ∧ s.t0 + s.env.params.tRdsMs ≤ s.nowAnswer ∧ fetchTest group none s = none s.tickNow) ∨
      (s.rdsr = false ∧ s.nowAnswer < s.t0 + s.env.params.tRdsMs ∧ fetchTest group none s = goto .fetchDelay s.tickNow) := by
  unfold fetchTest
  cases h : s.rdsr with
  | true => exact .inl ⟨rfl, rfl⟩
  | false =>
    rcases deadline_cases s.t0 s.env.params.tRdsMs none (goto .fetchDelay) s with ⟨h1, h2⟩ | ⟨h1, h2⟩
    · exact .inr (.inl ⟨rfl, h1, by simp only [Bool.false_eq_true, if_false, h2]⟩)
    · exact .inr (.inr ⟨rfl, h1, by simp only [Bool.false_eq_true, if_false, h2]⟩)

/-- The tests after a fetch poll do not depend on the sequence position, when what follows them does not. -/
theorem fetchTest_withPos (group none : State → State) (s : State) (p : SeqPos)
    (hg : ∀ s p, group { s with pos := p } = group s) (hn : ∀ s p, none { s with pos := p } = none s) :
    fetchTest group none { s with pos := p } = fetchTest group none s := by
  show (if s.rdsr then group { s with pos := p }
    else if s.t0 + s.env.params.tRdsMs ≤ s.nowAnswer then none { s.tickNow with pos := p }
    else goto .fetchDelay s.tickNow) = _
  rw [hg, hn]
  rfl

/-- A poll read of a fetch cycle does not depend on the sequence position it is made at, when what follows it does not:
the first read of a cycle is the same read as at `fetchPoll` (43_rds_decoder.md R210). -/
theorem fetchPollStep_withPos (group none : State → State) (s : State) (p : SeqPos)
    (hg : ∀ s p, group { s with pos := p } = group s) (hn : ∀ s p, none { s with pos := p } = none s) :
    fetchPollStep group none { s with pos := p } = fetchPollStep group none s := by
  unfold fetchPollStep
  rcases readAll_cases (fetchTest group none) s with ⟨b, h1, h2, h3⟩ | ⟨h1, h3⟩
  · rw [h3, readAll_ok _ (s := { s with pos := p }) h1 h2]
    exact fetchTest_withPos group none (afterRead b s) p hg hn
  · rw [h3, readAll_fail _ (s := { s with pos := p }) h1]
    rfl

/-- A captured group is emitted or passed over (43_rds_decoder.md R241). -/
theorem captureGroup_cases (fen : Bool) (gt : BitVec 4) (gv : GroupVer) (s : State) :
    (captureMatches fen gt gv (s.reg 0xD) = true ∧ captureGroup fen gt gv s = goto .captureEmit s) ∨
      (captureMatches fen gt gv (s.reg 0xD) = false ∧ captureGroup fen gt gv s = goto .captureDelay s) := by
  unfold captureGroup
  cases captureMatches fen gt gv (s.reg 0xD)
  · exact .inr ⟨rfl, rfl⟩
  · exact .inl ⟨rfl, rfl⟩

/-- A segment write changes one accumulator and nothing else (43_rds_decoder.md R229). -/
theorem accWrite_cases (acc : AccId) (flag : BufId) (seg : Nat) (cs : List Byte) (s : State) :
    accWrite acc flag seg cs s = { s with acc :=
      match acc with
      | .ps => { s.acc with ps := s.acc.ps.write flag seg cs }
      | .rt => { s.acc with rt := s.acc.rt.write flag seg cs }
      | .paging => { s.acc with paging := s.acc.paging.write flag seg cs }
      | .ptyn => { s.acc with ptyn := s.acc.ptyn.write flag seg cs } } := by
  cases acc <;> rfl

end Sys2Proof.Machine
end

