-- ==== Sys2Proof/Tests/Slice0.lean ====
section
/-! SUPPORT. Tests on fixed values. The expected values are those of spec/95_test_vectors.md, by section, or are worked out
by hand from the rule that is named; none was produced by the model. The `wit_` theorems show that the hypotheses of
an obligation can be met together. -/

namespace Sys2Proof.Machine.Tests

/-! ## Helpers -/

/-- The OPEN parameters as spec/95_test_vectors.md section 0 assigns them for its vectors (TA), with the timing values of
00_scope.md R6. -/
def ta : Config.Params :=
  { timingTable with
    devAddr := 0x10, readCmd := 0, defaultFreq := 1015, deDefault := 0, spaceDefault := 1, seekthDefault := 0x19,
    sksnrDefault := 4, skcntDefault := 8 }

/-- The shadow X1 of section 0. -/
def x1 : Vector Word 16 :=
  #v[0x1242, 0x1253, 0x4001, 0x008C, 0x1000, 0x1918, 0x0048, 0x8100, 0, 0, 0, 0, 0, 0, 0, 0]

/-- The 32 bytes a device that holds `x` answers (20_memory.md R62). -/
def stream (x : List Word) : List Byte :=
  (x.drop 10 ++ x.take 10).flatMap fun w => [w.extractLsb 15 8, w.extractLsb 7 0]

/-- A device with the configuration of X1, the status word `st` and the blocks `b`, `c`, `d` behind A = 0x9E01. -/
def answer (st : Word) (b c d : Word := 0) : Config.ReadAnswer :=
  .bytes (stream [0x1242, 0x1253, 0x4001, 0x008C, 0x1000, 0x1918, 0x0048, 0x8100, 0, 0, st, 0, 0x9E01, b, c, d])

/-- The same bytes, for statements that name them. -/
def bytesOf (st : Word) (b c d : Word := 0) : List Byte :=
  stream [0x1242, 0x1253, 0x4001, 0x008C, 0x1000, 0x1918, 0x0048, 0x8100, 0, 0, st, 0, 0x9E01, b, c, d]

/-- An environment under TA with the given answers to come and a tight time base. -/
def env (reads : List Config.ReadAnswer) (writes : List Config.WriteAnswer) (agenda : List HostAct := []) : Env :=
  { params := ta, readScript := reads, writeScript := writes, slackScript := [0, 0, 0, 0], readDraws := 0,
    writeDraws := 0, nowDraws := 0, clock := none, agenda := agenda, hostReads := [] }

/-- S0 of section 0: the state after `rst`. -/
def s0 (reads : List Config.ReadAnswer := []) (writes : List Config.WriteAnswer := []) (agenda : List HostAct := []) :
    State :=
  { State.reset with env := env reads writes agenda }

/-- SR(X1) of section 0: READY with the shadow X1. -/
def sr (reads : List Config.ReadAnswer := []) (writes : List Config.WriteAnswer := []) (agenda : List HostAct := []) :
    State :=
  { s0 reads writes agenda with x := x1, shadowValid := true, seqState := .ready }

/-- `s` after the host's writes of ARG and CMD, before the command's own first step. -/
def sent (w arg : Word) (s : State) : State := accept w { s with arg := arg }

/-- `s` at another position of its command. -/
def at' (p : SeqPos) (s : State) : State := { s with pos := p }

/-- A view of the next state, or nothing where the step stops. -/
def view {α : Type} (f : State → α) : StepResult → Option α
  | .next t => some (f t)
  | _ => none

/-- What most vectors list: STAT, RESULT and ERRCMD. -/
def regs (t : State) : Word × Word × Word := (t.stat, t.result, t.errCmd)

/-- The bytes of the last bus write. -/
def lastWrite (t : State) : List Byte :=
  match t.bus.getLast? with
  | some (.wr _ b _) => b
  | _ => []

/-! ## Decoding: the words written out field by field from the formats of 30_encoding.md R91 -/

theorem test_decode_no_operand :
    decode (0b00000#5 ++ 0b00000000000#11) = .command .nop ∧
    decode (0b00001#5 ++ 0b00000000000#11) = .command .readAll ∧
    decode (0b00010#5 ++ 0b00000000000#11) = .command .writeCfg ∧
    decode (0b01000#5 ++ 0b00000000000#11) = .command .powerUp ∧
    decode (0b01001#5 ++ 0b00000000000#11) = .command .powerDown ∧
    decode (0b01011#5 ++ 0b00000000000#11) = .command .tune ∧
    decode (0b01100#5 ++ 0b00000000000#11) = .command .rdsDecode ∧
    decode (0b01110#5 ++ 0b00000000000#11) = .command .rdsReset := by decide

theorem test_decode_shadow :
    decode (0b00011#5 ++ 0b0000000#7 ++ 0b1010#4) = .command (.shadowRd 10) ∧
    decode (0b00100#5 ++ 0b0000000#7 ++ 0b0101#4) = .command (.shadowWr 5) := by decide

theorem test_decode_field :
    decode (0b00101#5 ++ 0b00000#5 ++ 0b101011#6) = .command (.fieldGet 43) ∧
    decode (0b00110#5 ++ 0b00000#5 ++ 0b011100#6) = .command (.fieldSet 28) ∧
    decode (0b00111#5 ++ 0b00000#5 ++ 0b101111#6) = .command (.fieldExtract 47) := by decide

theorem test_decode_seek_and_capture :
    decode (0b01010#5 ++ 0b000000000#9 ++ 0b1#1 ++ 0b0#1) = .command (.seek 1 0) ∧
    decode (0b01010#5 ++ 0b000000000#9 ++ 0b0#1 ++ 0b1#1) = .command (.seek 0 1) ∧
    decode (0b01101#5 ++ 0b00000#5 ++ 0b1#1 ++ 0b1011#4 ++ 0b0#1) = .command (.rdsCapture true 11 .a) ∧
    decode (0b01101#5 ++ 0b00000#5 ++ 0b0#1 ++ 0b0010#4 ++ 0b1#1) = .command (.rdsCapture false 2 .b) := by decide

theorem test_decode_accumulators :
    decode (0b01111#5 ++ 0b01#2 ++ 0b1#1 ++ 0b00#2 ++ 0b001001#6) = .command (.accRd .rt .b 9) ∧
    decode (0b10000#5 ++ 0b10#2 ++ 0b1#1 ++ 0b00000000#8) = .command (.accRecv .paging .b) ∧
    decode (0b10001#5 ++ 0b11#2 ++ 0b000000000#9) = .command (.accCur .ptyn) ∧
    decode (0b10010#5 ++ 0b0000000000#10 ++ 0b1#1) = .command (.idRd .info) := by decide

/-- L2.1: the words with the lowest reserved bit set, and reserved opcodes. -/
theorem test_decode_rejects :
    ([0x0001, 0x0801, 0x1001, 0x1810, 0x2010, 0x2840, 0x3040, 0x3840, 0x4001, 0x4801, 0x5004, 0x5801, 0x6001, 0x6840,
      0x7001, 0x7840, 0x8001, 0x8801, 0x8900, 0x9002, 0x0400, 0x1C00, 0x6C00] : List Word).all
        (fun w => decide (decode w = .rejected .reservedBits)) ∧
    ([0x9800, 0x9801, 0xE000, 0xF800, 0xFFFF] : List Word).all
      (fun w => decide (decode w = .rejected .illegalOpcode)) := by decide

theorem test_table_word : decodeTableWord 16 0x382F = some (.fieldExtract 47) ∧ decodeTableWord 16 0x9800 = none := by
  decide

/-! ## WellFormed: one ill-formed term for each check -/

theorem test_wf_shadowWr : Instr.wellFormed (.shadowWr 1) = false ∧ Instr.wellFormed (.shadowWr 8) = false ∧
    Instr.wellFormed (.shadowWr 7) = true := by decide
theorem test_wf_fieldGet : Instr.wellFormed (.fieldGet 49) = false ∧ Instr.wellFormed (.fieldGet 48) = true := by decide
theorem test_wf_fieldSet : Instr.wellFormed (.fieldSet 4) = false ∧ Instr.wellFormed (.fieldSet 36) = false ∧
    Instr.wellFormed (.fieldSet 5) = true := by decide
theorem test_wf_fieldExtract : Instr.wellFormed (.fieldExtract 49) = false ∧
    Instr.wellFormed (.fieldExtract 48) = true := by decide
theorem test_wf_accRd : Instr.wellFormed (.accRd .ps .a 8) = false ∧ Instr.wellFormed (.accRd .ptyn .b 8) = false ∧
    Instr.wellFormed (.accRd .rt .a 63) = true := by decide

/-! ## The field table (41_field_decoder.md R140) -/

/-- Every mask is its width at its offset. -/
theorem test_field_masks : fieldTable.length = 48 ∧
    fieldTable.all (fun f => decide (f.mask = BitVec.ofNat 16 ((2 ^ f.width - 1) * 2 ^ f.offset))) := by decide

/-! ## Register transaction commands -/

/-- L2.2, NOP in READY. -/
theorem test_nop : view regs (exec .nop (sent 0x0000 0 (sr))) = some (0x2100, 0, 0) := by decide

/-- L1.7: the stream AA AA BB BB ... 99 99 from S0. -/
theorem test_readAll : view (fun t => (t.x, t.shadowValid, t.pos))
    (exec .readAll (sent 0x0800 0 (s0 [.bytes ([0xAA, 0xBB, 0xCC, 0xDD, 0xEE, 0xFF, 0x00, 0x11, 0x22, 0x33, 0x44, 0x55,
      0x66, 0x77, 0x88, 0x99].flatMap fun c => [c, c])]))) =
    some (#v[0x0000, 0x1111, 0x2222, 0x3333, 0x4444, 0x5555, 0x6666, 0x7777, 0x8888, 0x9999, 0xAAAA, 0xBBBB, 0xCCCC,
      0xDDDD, 0xEEEE, 0xFFFF], true, .finish .ok) := by decide

/-- L2.2, a failed read from S0. -/
theorem test_readAll_fails : view (fun t => (regs t, t.shadowValid, t.x, t.bus))
    (exec .readAll (sent 0x0800 0 (s0 [.busError]))) =
    some ((0x7E01, 0, 0x0800), false, Vector.replicate 16 0, [.rd 0x10 0 32 .busError]) := by decide

/-- A 31-byte answer is a bus failure too (20_memory.md R66). -/
theorem test_short_read_fails : view (fun t => (regs t, t.bus))
    (exec .readAll (sent 0x0800 0 (s0 [.bytes (List.replicate 31 0)]))) =
    some ((0x7E01, 0, 0x0800), [.rd 0x10 0 32 .busError]) := by decide

/-- The 12 bytes of X1, first byte first (20_memory.md R63). -/
theorem test_writeCfg : view (fun t => (t.x, t.bus)) (exec .writeCfg (sent 0x1000 0 (sr [] [.ok]))) =
    some (x1, [.wr 0x10 [0x40, 0x01, 0x00, 0x8C, 0x10, 0x00, 0x19, 0x18, 0x00, 0x48, 0x81, 0x00] .ok]) := by decide

/-- L2.2, WRITE_CFG from S0. -/
theorem test_writeCfg_unsynced : view regs (exec .writeCfg (sent 0x1000 0 (s0))) = some (0x0D00, 0, 0x1000) := by decide

theorem test_shadowRd : view regs (exec (.shadowRd 5) (sent 0x1805 0 (sr))) = some (0x2100, 0x1918, 0) := by decide
theorem test_shadowRd_unsynced : view regs (exec (.shadowRd 9) (sent 0x1809 0 (s0))) = some (0x0D00, 0, 0x1809) := by
  decide

/-- L2.2: SHADOW_WR 5, 0x1A1F. -/
theorem test_shadowWr : view (fun t => (regs t, t.x)) (exec (.shadowWr 5) (sent 0x2005 0x1A1F (sr))) =
    some ((0x2100, 0, 0), x1.set 5 0x1A1F) := by decide
/-- L2.1: the index check stands before the shadow check. -/
theorem test_shadowWr_bad : view regs (exec (.shadowWr 1) (sent 0x2001 0 (s0))) = some (0x0B00, 0, 0x2001) := by decide

/-! ## Field commands (L2.3) -/

theorem test_fieldGet_fresh : view regs (exec (.fieldGet 43) (at' .fieldRead (sent 0x282B 0
    { sr with x := x1.set 10 0x4029 }))) = some (0x2100, 0x0029, 0) := by decide
theorem test_fieldGet_readfreq : view regs (exec (.fieldGet 48) (at' .fieldRead (sent 0x2830 0
    { sr with x := x1.set 11 0xFC8C }))) = some (0x2100, 1015, 0) := by decide
theorem test_fieldSet : view (fun t => (regs t, t.x)) (exec (.fieldSet 25) (sent 0x3019 0xFF
    { sr with x := x1.set 5 0x1A1F })) = some ((0x2100, 0, 0), x1.set 5 0xFF1F) := by decide
theorem test_fieldSet_value : view regs (exec (.fieldSet 28) (sent 0x301C 16 (s0))) = some (0x0C00, 0, 0x301C) := by
  decide
theorem test_fieldExtract : view regs (exec (.fieldExtract 47) (sent 0x382F 0xFC8C (s0))) = some (0x0100, 140, 0) := by
  decide
theorem test_fieldExtract_readfreq : view regs (exec (.fieldExtract 48) (sent 0x3830 0xFFFF (s0))) =
    some (0x0100, 1898, 0) := by decide

/-! ## Tuning and seek (L1.6, L2.4) -/

/-- The second write of POWER_UP under TA: F has 0x8100 in Test1 after the first write, zeros elsewhere. -/
theorem test_powerUp_defaults : view lastWrite (exec .powerUp (at' .configWrite (sent 0x4000 0
    { s0 [] [.ok] with x := (Vector.replicate 16 0).set 7 0x8100 }))) =
    some [0x40, 0x01, 0x00, 0x00, 0x10, 0x00, 0x19, 0x10, 0x00, 0x48, 0x81, 0x00] := by decide
theorem test_powerUp_trigger : view lastWrite (exec .powerUp (at' .tuneTrigger (sent 0x4000 0 (s0 [] [.ok])))) =
    some [0, 0, 0x80, 0x8C, 0, 0, 0, 0, 0, 0, 0, 0] := by decide
/-- R172 on X1. The Channel bytes stay 00 8C: L2.4 writes 00 00 there, against its own X1 and R172 (NOTES.md). -/
theorem test_powerDown : view (fun t => (lastWrite t, t.pos)) (exec .powerDown (sent 0x4800 0 (sr [] [.ok]))) =
    some ([0x00, 0x41, 0x00, 0x8C, 0x10, 0x00, 0x19, 0x18, 0x00, 0x48, 0xC1, 0x00], .powerDownDelay) := by decide
theorem test_powerDown_ends : view regs (exec .powerDown (at' (.finish .ok) (sent 0x4800 0 (sr)))) =
    some (0x0100, 0, 0) := by decide
theorem test_seek_trigger : view lastWrite (exec (.seek 1 0) (sent 0x5002 0 (sr [] [.ok]))) =
    some [0x45, 0x01, 0x00, 0x8C, 0x10, 0x00, 0x19, 0x18, 0x00, 0x48, 0x81, 0x00] := by decide
/-- SFBL alone does not end the seek loop before the deadline. -/
theorem test_seek_sfbl : view (·.pos) (exec (.seek 0 1) (at' .seekPoll (sent 0x5001 0 (sr [answer 0x2000])))) =
    some .seekDelay := by decide
theorem test_tune_trigger : view lastWrite (exec .tune (sent 0x5800 0xFFFF (sr [] [.ok]))) =
    some [0x40, 0x01, 0x80, 0xCD, 0x10, 0x00, 0x19, 0x18, 0x00, 0x48, 0x81, 0x00] := by decide
/-- STC and SFBL together are NOT_FOUND (42_tuning_fsm.md R178). -/
theorem test_tune_not_found : view (·.pos) (exec .tune (at' .tunePoll (sent 0x5800 1015 (sr [answer 0x6000])))) =
    some (.tuneExit .notFound) := by decide

/-! ## RDS (L2.5) -/

/-- A group with A = 0x9E01 waiting to be decoded. -/
def group (b c d : Word) : State :=
  at' .decodeGroup (sent 0x6000 0 { sr with x := (((x1.set 12 0x9E01).set 13 b).set 14 c).set 15 d })

theorem test_decode_0A : view (fun t => (t.events, t.acc.ps.bufA.recv, t.slotOf .ps .a 2, t.slotOf .ps .a 3,
    t.slotOf .ps .a 4, t.ident.info)) (exec .rdsDecode (group 0x0549 0x3A41 0x4552)) =
    some ([.grp0a 1 0 1 0 933 940 0x45 0x52], 0b0010, ⟨true, 0x45⟩, ⟨true, 0x52⟩, ⟨false, 0⟩, 0x802A) := by decide
/-- L1.5, the first row of the 4A vectors. -/
theorem test_decode_4A : view (·.events) (exec .rdsDecode (group 0x4001 0xD9F8 0xA7A2)) =
    some [.clock 2024 12 24 1 10 30 (-2)] := by decide
/-- The group types that only report: 1A, 3A, 14A, 5A, and 4A outside the guard. -/
theorem test_decode_reports :
    view (·.events) (exec .rdsDecode (group 0x1540 0x3009 0xC36D)) =
      some [.grp1 0 24 13 45 (some ⟨0, 3, 9, .language⟩)] ∧
    view (·.events) (exec .rdsDecode (group 0x3548 0x1234 0xCD46)) = some [.grp3a 8 0x1234 0xCD46] ∧
    view (·.events) (exec .rdsDecode (group 0xE00C 0x5A5A 0xC301)) = some [.grp14a 0 12 0x5A5A 0xC301 .linkage] ∧
    view (·.events) (exec .rdsDecode (group 0x5000 1 2)) = some [.unrec 5 0 0x9E01 0x5000 1 2] ∧
    view (·.events) (exec .rdsDecode (group 0x4002 0xB00A 0)) = some [] := by decide
/-- 10A with B[3:1] = 0b111 ignored: "JAZZ" in PTYN A slots 0 to 3. -/
theorem test_decode_10A : view (fun t => (t.acc.ptyn.bufA.recv, t.slotOf .ptyn .a 0, t.slotOf .ptyn .a 3,
    t.slotOf .ptyn .a 4, t.events)) (exec .rdsDecode (group 0xA00E 0x4A41 0x5A5A)) =
    some (0b01, ⟨true, 0x4A⟩, ⟨true, 0x5A⟩, ⟨false, 0⟩, []) := by decide

/-- Duration 0 completes at once (43_rds_decoder.md R241). -/
theorem test_capture_zero : view (fun t => (regs t, t.bus)) (exec (.rdsCapture false 0 .a) (sent 0x6800 0 (sr))) =
    some ((0x2100, 0, 0), []) := by decide
/-- The filter 2A lets a 2A group pass and not a 2B one. -/
theorem test_capture_filter :
    view (·.pos) (exec (.rdsCapture true 2 .a) (sent 0x6824 10 (sr [answer 0x8000 0x2012]))) = some .captureEmit ∧
    view (·.pos) (exec (.rdsCapture true 2 .a) (sent 0x6824 10 (sr [answer 0x8000 0x2812]))) = some .captureDelay := by
  decide

/-- RT buffer B with "AB" in slots 8 and 9 and segment 2 received (the 2A row of L2.5). -/
def withText : State :=
  let slots := ((Vector.replicate 64 Slot.sentinel).set 8 ⟨true, 0x41⟩).set 9 ⟨true, 0x42⟩
  let rt : Accum 64 16 := ⟨TextBuf.empty 64 16, ⟨slots, 4⟩, .b⟩
  { sr with acc := { AccFile.empty with rt := rt }, ident := ⟨true, 0x9E01, 10, 1⟩ }

theorem test_rdsReset : view (fun t => (regs t, t.acc.rt.cur, t.acc.rt.bufB.recv, t.slotOf .rt .b 8, t.ident.info))
    (exec .rdsReset (sent 0x7000 0 withText)) = some ((0x2100, 0, 0), .a, 0, ⟨false, 0⟩, 0) := by decide
theorem test_accRd : view regs (exec (.accRd .rt .b 9) (sent 0x7B09 0 withText)) = some (0x2100, 0x0142, 0) := by decide
theorem test_accRd_bad : view regs (exec (.accRd .ptyn .b 8) (sent 0x7F08 0 withText)) =
    some (0x2B00, 0, 0x7F08) := by decide
theorem test_accRecv : view regs (exec (.accRecv .rt .b) (sent 0x8300 0 withText)) = some (0x2100, 4, 0) := by decide
theorem test_accCur : view regs (exec (.accCur .rt) (sent 0x8A00 0 withText)) = some (0x2100, 1, 0) := by decide
theorem test_idRd : view regs (exec (.idRd .pi) (sent 0x9000 0 withText)) = some (0x2100, 0x9E01, 0) ∧
    view regs (exec (.idRd .info) (sent 0x9001 0 withText)) = some (0x2100, 0x802A, 0) := by decide

/-! ## The calendar and the frequency mapping (L1.2, L1.4, L1.5) -/

theorem test_mjd : mjdToDate 58849 = ⟨2020, 1, 1, 2⟩ ∧ mjdToDate 0 = ⟨1858, 11, 18, 2⟩ ∧
    mjdToDate 15078 = ⟨1900, 2, 29, 2⟩ ∧ mjdToDate 60668 = ⟨2024, 12, 24, 1⟩ ∧ mjdToDate 131071 = ⟨2217, 9, 25, 5⟩ := by
  decide
theorem test_guard : dateOk 1999 12 31 = false ∧ dateOk 2105 1 1 = false ∧ dateOk 2024 13 1 = false ∧
    dateOk 2024 1 32 = false ∧ dateOk 2024 0 1 = false ∧ dateOk 2024 1 0 = false ∧ dateOk 2024 12 24 = true := by decide
theorem test_frequency : freqToChan 875 = 0 ∧ freqToChan 1015 = 140 ∧ freqToChan 1080 = 205 ∧ freqToChan 874 = 0 ∧
    freqToChan 1081 = 205 ∧ freqToChan 0xFFFF = 205 ∧ chanToFreq 140 = 1015 := by decide

/-! ## Witnesses: the hypotheses of each obligation that has some, met together -/

/-- HALTED as a failed transaction leaves it. -/
def halted (agenda : List HostAct := []) : State := { s0 [] [] agenda with seqState := .halted, busErr := true }

theorem wit_EncodeOfDecodedWordIsTheWord : decode 0x180A = .command (.shadowRd 0xA) := by decide

theorem wit_WordsAreCommandsOrRejectedByName :
    0x13 ≤ ((0x9800 : Word).extractLsb 15 11).toNat ∧ 0x13 ≤ ((0xFFFF : Word).extractLsb 15 11).toNat ∧
    reservedOf[((0x0001 : Word).extractLsb 15 11).toNat]? = some 0x07FF ∧ (0x0001 : Word) &&& 0x07FF ≠ 0 ∧
    reservedOf[((0x9001 : Word).extractLsb 15 11).toNat]? = some 0x07FE ∧ (0x9001 : Word) &&& 0x07FE = 0 := by decide

theorem wit_RstSetsEveryStatedValue :
    (at' .seekPoll (sent 0x5001 7 (sr [] [] [.rst, .turn]))).env.agenda = .rst :: [.turn] := by decide

theorem wit_EveryStepKeepsConsistent :
    (sent 0x5001 0 (sr [] [.ok])).consistent = true ∧
      ∃ t, step (sent 0x5001 0 (sr [] [.ok])) = .next t ∧ t.pos = .seekPoll := ⟨by decide, _, rfl, by decide⟩

theorem wit_ConsistentStatesNeverStop : (sent 0xFFFF 0 (s0)).consistent = true ∧ (halted).consistent = true ∧
    (sr).consistent = true := by decide

theorem wit_ReadyStatesHaveAValidShadow :
    (∃ t, step (sr) = .next t ∧ t.seqState = .ready) ∧
    (∃ t, step (sent 0x5001 0 (sr [] [.ok])) = .next t ∧ t.seqState = .seeking) ∧
    (∃ t, step (sent 0x5800 0 (sr [] [.ok])) = .next t ∧ t.seqState = .tuning) ∧
    (∃ t, step (sent 0x4800 0 (sr [] [.ok])) = .next t ∧ t.seqState = .poweringDown) ∧
    (∃ t, step (sent 0x6000 0 (sr [answer 0])) = .next t ∧ t.seqState = .rdsFetch) ∧
    ([sr, sent 0x5001 0 (sr [] [.ok]), sent 0x5800 0 (sr [] [.ok]), sent 0x4800 0 (sr [] [.ok]),
      sent 0x6000 0 (sr [answer 0])].all State.consistent) = true :=
  ⟨⟨_, rfl, by decide⟩, ⟨_, rfl, by decide⟩, ⟨_, rfl, by decide⟩, ⟨_, rfl, by decide⟩, ⟨_, rfl, by decide⟩, by decide⟩

theorem wit_StepRunsTheLatchedCommand :
    (sent 0x382F 9 (sr)).pos ≠ .idle ∧ decode (sent 0x382F 9 (sr)).cwCur = .command (.fieldExtract 47) ∧
    (sent 0x382F 9 (sr)).env.agenda = [] ∧ (sent 0x382F 9 (sr [] [] [.turn, .rst])).env.agenda = .turn :: [.rst] ∧
    (sent 0x382F 9 (sr [] [] [.turn, .rst])).pos ≠ .idle := by decide

/-- `withFetchWord` then one step runs the word: NOP from S0 and SHADOW_RD 5 in READY. -/
theorem test_step_runs_withFetchWord :
    view regs (step ((s0).withFetchWord 16 0x0000)) = some (0x0100, 0, 0) ∧
    view regs (step ((sr).withFetchWord 16 0x1805)) = some (0x2100, 0x1918, 0) := by decide

theorem wit_CommandWriteIsLatchedOrDropped :
    (sr [] [] [.write 0 0x6000]).env.agenda = .write 0 0x6000 :: [] ∧ (sr [] [] [.write 0 0x6000]).busy = false ∧
    (sent 0x5001 0 (sr [] [] [.write 0 0x6000])).busy = true := by decide

theorem wit_AcceptanceChecksInOrder :
    (halted [.write 0 0xF800]).busy = false ∧ (halted [.write 0 0xF800]).seqState = .halted ∧
    decode 0x9801 = .rejected .illegalOpcode ∧ decode 0x5004 = .rejected .reservedBits ∧
    (s0 [] [] [.write 0 0x4000]).seqState = .poweredDown ∧ decode 0x4000 = .command .powerUp ∧
    (sr [] [] [.write 0 0x6800]).seqState = .ready ∧ decode 0x6800 = .command (.rdsCapture false 0 .a) ∧
    (sr [] [] [.write 0 0x6800]).busy = false ∧ decode 0x0000 = .command .nop := by decide

theorem wit_RejectedCommandOnlyReportsItsError :
    (s0 [] [] [.write 0 0x5004]).busy = false ∧ check 0x5004 (s0).seqState = .error .reservedBits := by decide

theorem wit_ErrorCompletionsChangeOnlyTheReport :
    (sent 0x1000 0 (s0)).consistent = true ∧ (sent 0x1000 0 (s0)).pos ≠ .idle ∧
    decode (sent 0x1000 0 (s0)).cwCur = .command .writeCfg ∧
    ∃ t, exec .writeCfg (sent 0x1000 0 (s0)) = .next t ∧ t.pos = .idle ∧ t.outcome = .err .notSynced :=
  ⟨by decide, by decide, by decide, _, rfl, by decide, by decide⟩

theorem wit_HaltedIsLeftOnlyByRst :
    (halted).consistent = true ∧ (halted).seqState = .halted ∧ (halted).busy = false ∧
    (halted [.write 0 0x0000]).env.agenda = [.write 0 0x0000] ∧
    (halted [.rst]).env.agenda = .rst :: [] ∧ (halted [.turn]).env.agenda.head? ≠ some .rst ∧ ∃ t, step (halted [.turn]) = .next t ∧ t.busErr = true :=
  ⟨by decide, by decide, by decide, by decide, by decide, by decide, _, rfl, by decide⟩

theorem wit_HostPortAccesses :
    (sr [] [] [.read 7]).env.agenda = .read 7 :: [] ∧ (sr [] [] [.write 1 5]).env.agenda = .write 1 5 :: [] ∧
    (sr [] [] [.write 2 5]).env.agenda = .write 2 5 :: [] ∧ 2 ≤ (2 : BitVec 3).toNat ∧ 5 ≤ (5 : BitVec 3).toNat := by
  decide

theorem wit_IdleBlockWaits : (sr).pos = .idle ∧ (sr).env.agenda = [] := by decide

theorem wit_FailedTransactionsHalt :
    (readsNow .readAll (sent 0x0800 0 (sr [answer 0])) ∧
      (sent 0x0800 0 (sr [answer 0])).env.peekRead = .bytes (bytesOf 0) ∧ (bytesOf 0).length = 32) ∧
    (readsNow (.fieldGet 36) (sent 0x2824 0 (sr [.busError])) ∧
      ∀ b, (sent 0x2824 0 (sr [.busError])).env.peekRead = .bytes b → b.length ≠ 32) ∧
    (writesNow .powerDown (sent 0x4800 0 (sr [] [.ok])) ∧ (sent 0x4800 0 (sr [] [.ok])).env.peekWrite = .ok) ∧
    (writesNow .writeCfg (sent 0x1000 0 (sr [] [.busError])) ∧
      (sent 0x1000 0 (sr [] [.busError])).env.peekWrite = .busError) ∧
    (¬ readsNow .nop (sent 0x0000 0 (sr)) ∧ ¬ writesNow .nop (sent 0x0000 0 (sr)) ∧
      ∃ t, exec .nop (sent 0x0000 0 (sr)) = .next t ∧ t.busErr = false) :=
  ⟨⟨rfl, by decide, by decide⟩,
    ⟨⟨rfl, by decide, by decide⟩, fun b h => Config.ReadAnswer.noConfusion (h : Config.ReadAnswer.busError = _)⟩,
    ⟨rfl, by decide⟩, ⟨⟨rfl, rfl⟩, by decide⟩, id, id, _, rfl, by decide⟩

/-- A BusError halts at the exit write of a seek and at a poll of a capture (60_exceptions.md R286): BUSERR, HALTED,
E_BUS and ERRCMD. -/
theorem test_bus_failures :
    view (fun t => (regs t, t.x)) (exec (.seek 0 1) (at' (.seekExit .ok) (sent 0x5001 0 (sr [] [.busError])))) =
      some ((0x7E01, 0, 0x5001), x1) ∧
    view regs (exec (.rdsCapture false 0 .a) (at' .fetchPoll (sent 0x6800 1 (sr [.busError])))) =
      some (0x7E01, 0, 0x6800) := by decide

theorem wit_StateFollowsItsGraph :
    (at' (.exitDone .ok) (sent 0x5001 0 (sr))).consistent = true ∧
    decode (at' (.exitDone .ok) (sent 0x5001 0 (sr))).cwCur = .command (.seek 0 1) ∧
    ∃ t, exec (.seek 0 1) (at' (.exitDone .ok) (sent 0x5001 0 (sr))) = .next t ∧ t.seqState = .ready :=
  ⟨by decide, by decide, _, rfl, by decide⟩

theorem wit_RunningCommandKeepsItsOperands :
    (sent 0x2005 9 (sr)).pos ≠ .idle ∧ ∃ t, exec (.shadowWr 5) (sent 0x2005 9 (sr)) = .next t ∧ t.argCur = 9 :=
  ⟨by decide, _, rfl, by decide⟩

theorem wit_HistoriesOnlyGrow :
    (sent 0x0800 0 (sr [answer 0])).env.agenda.head? ≠ some .rst ∧
    ∃ t, step (sent 0x0800 0 (sr [answer 0])) = .next t ∧ t.bus.length = 1 := ⟨by decide, _, rfl, by decide⟩

theorem wit_OnlyResetClearsTheStickyFlags :
    ({ halted [.write 0 0] with shadowValid := true, dropped := true } : State).env.agenda.head? ≠ some .rst ∧
    ∃ t, step { halted [.write 0 0] with shadowValid := true, dropped := true } = .next t ∧ t.dropped = true :=
  ⟨by decide, _, rfl, by decide⟩

theorem wit_ResultIsWrittenOnlyByReads :
    ∃ t, exec (.shadowRd 5) (sent 0x1805 0 (sr)) = .next t ∧ t.result ≠ (sent 0x1805 0 (sr)).result :=
  ⟨_, rfl, by decide⟩

theorem wit_ShadowIsChangedOnlyByItsWriters :
    (∃ t, exec (.shadowWr 5) (sent 0x2005 9 (sr)) = .next t ∧ t.x ≠ (sent 0x2005 9 (sr)).x) ∧
    ∃ t, exec .readAll (sent 0x0800 0 (sr [answer 0x4000])) = .next t ∧ t.x ≠ (sent 0x0800 0 (sr [answer 0x4000])).x :=
  ⟨⟨_, rfl, by decide⟩, _, rfl, by decide⟩

theorem wit_UnnamedBitsAreCarried :
    (∀ i, Instr.tune ≠ .shadowWr i) ∧
    (∃ t, exec .tune (sent 0x5800 1015 (sr [] [.ok])) = .next t ∧ t.pos = .tunePoll) ∧ unnamedOf[3]? = some 0x7C00 :=
  ⟨by decide, ⟨_, rfl, by decide⟩, by decide⟩

/-- A clock that a `Now()` has set: a SEEK whose trigger write is done, at its delay. -/
def delaying : State := at' .seekDelay { sent 0x5001 0 (sr) with env := { env [] [] with clock := some 7 } }

theorem wit_NowObeysTheTimeLaw :
    (delaying.env.clock = some 7 ∧ ∃ t, step delaying = .next t ∧ t.env.clock = some 107) ∧
    ((s0).env.clock = none ∧ ∀ c, (s0).env.clock = some c → c ≤ 0) ∧
    (∀ c, delaying.env.clock = some c → c ≤ 7) :=
  ⟨⟨by decide, _, rfl, by decide⟩, ⟨by decide, by simp [s0, env]⟩, by simp [delaying, at', env]⟩

theorem wit_NopCompletesOk : (sent 0x0000 0 (sr)).pos = .start := by decide

theorem wit_ReadAllUnrotatesTheStream :
    (sent 0x0800 0 (s0 [answer 0])).pos = .start ∧
    (sent 0x0800 0 (s0 [answer 0])).env.peekRead = .bytes (bytesOf 0) ∧ (bytesOf 0).length = 32 := by decide

theorem wit_WriteCfgSendsTheWriteWindow :
    (sent 0x1000 0 (s0)).pos = .start ∧ (sent 0x1000 0 (s0)).shadowValid = false ∧
    (sent 0x1000 0 (sr [] [.ok])).pos = .start ∧ (sent 0x1000 0 (sr [] [.ok])).shadowValid = true ∧
    (sent 0x1000 0 (sr [] [.ok])).env.peekWrite = .ok := by decide

theorem wit_ShadowRdGivesTheRegister :
    (sent 0x1805 0 (sr)).pos = .start ∧ (sent 0x1805 0 (sr)).shadowValid = true ∧
    (sent 0x1805 0 (s0)).pos = .start ∧ (sent 0x1805 0 (s0)).shadowValid = false := by decide

theorem wit_ShadowWrWritesTheWindowOnly :
    (sent 0x2001 9 (sr)).pos = .start ∧ (1 : BitVec 4).toNat < 2 ∧ 7 < (8 : BitVec 4).toNat ∧
    (sent 0x2002 9 (s0)).pos = .start ∧ (sent 0x2002 9 (s0)).shadowValid = false ∧ 2 ≤ (2 : BitVec 4).toNat ∧
    (sent 0x2007 9 (sr)).pos = .start ∧ (sent 0x2007 9 (sr)).shadowValid = true ∧ (7 : BitVec 4).toNat ≤ 7 := by decide

theorem wit_FieldsDoNotInterfere :
    Field.volume ∈ fieldTable ∧ Field.seekth ∈ fieldTable ∧ (15 : Word).toNat < 2 ^ Field.volume.width ∧
    Field.seekth.reg = Field.volume.reg ∧ Field.seekth ≠ Field.volume ∧ unnamedOf[Field.xoscen.reg.toNat]? = some 0x3FFF := by
  decide

theorem wit_FieldGetGivesTheField :
    (sent 0x2831 0 (sr)).pos = .start ∧ 48 < (49 : BitVec 6).toNat ∧
    (sent 0x2823 0 (s0)).pos = .start ∧ (35 : BitVec 6).toNat < 36 ∧ (sent 0x2823 0 (s0)).shadowValid = false ∧
    (sent 0x2823 0 (sr)).shadowValid = true ∧ 36 ≤ (36 : BitVec 6).toNat ∧ (48 : BitVec 6).toNat ≤ 48 ∧
    (sent 0x2830 0 (s0 [answer 0])).pos = .start ∧
    (sent 0x2830 0 (s0 [answer 0])).env.peekRead = .bytes (bytesOf 0) ∧ (bytesOf 0).length = 32 := by decide

theorem wit_FieldSetReplacesTheFieldBits :
    (sent 0x3004 0 (sr)).pos = .start ∧ (4 : BitVec 6).toNat < 5 ∧ 35 < (36 : BitVec 6).toNat ∧
    5 ≤ (28 : BitVec 6).toNat ∧ (28 : BitVec 6).toNat ≤ 35 ∧ fieldPlaces[(28 : BitVec 6).toNat]? = some (5, 0, 4) ∧
    2 ^ 4 ≤ (sent 0x301C 16 (sr)).argCur.toNat ∧
    (sent 0x301C 15 (s0)).argCur.toNat < 2 ^ 4 ∧ (sent 0x301C 15 (s0)).shadowValid = false ∧
    (sent 0x301C 15 (sr)).argCur.toNat < 2 ^ 4 ∧ (sent 0x301C 15 (sr)).shadowValid = true ∧
    (sent 0x301C 15 (sr)).pos = .start := by decide

theorem wit_FieldExtractDecodesArg :
    (sent 0x3831 0 (sr)).pos = .start ∧ 48 < (49 : BitVec 6).toNat ∧ (sent 0x3830 0 (s0)).pos = .start ∧
    (48 : BitVec 6).toNat ≤ 48 ∧ fieldPlaces[(47 : BitVec 6).toNat]? = some (0xB, 0, 10) := by decide

theorem wit_FrequencyRoundTripAndClamp : 875 ≤ (875 : Word).toNat ∧ (1080 : Word).toNat ≤ 1080 ∧
    (874 : Word).toNat < 875 ∧ 1080 < (1081 : Word).toNat := by decide

theorem wit_PowerUpRunsToReady :
    let s := sent 0x4000 0 (s0 [answer 0, answer 0x4000] [.ok, .ok, .ok, .ok])
    s.pos = .start ∧ s.env.peekRead = .bytes (bytesOf 0) ∧ s.env.popRead.peekRead = .bytes (bytesOf 0x4000) ∧
    s.env.peekWrite = .ok ∧ s.env.popWrite.peekWrite = .ok ∧ s.env.popWrite.popWrite.peekWrite = .ok ∧
    s.env.popWrite.popWrite.popWrite.peekWrite = .ok ∧
    (bytesOf 0).length = 32 ∧ (bytesOf 0x4000).length = 32 ∧ ((bytesOf 0x4000).getD 0 0).getLsbD 6 = true := by decide

theorem wit_PowerDownRunsToPoweredDown :
    (sent 0x4800 0 (sr [] [.ok])).pos = .start ∧ (sent 0x4800 0 (sr [] [.ok])).env.peekWrite = .ok := by decide

theorem wit_SeekRunsToReady :
    let s := sent 0x5001 0 (sr [answer 0x6000] [.ok, .ok])
    s.pos = .start ∧ s.env.peekRead = .bytes (bytesOf 0x6000) ∧ s.env.peekWrite = .ok ∧
    s.env.popWrite.peekWrite = .ok ∧ (bytesOf 0x6000).length = 32 ∧
    ((bytesOf 0x6000).getD 0 0).getLsbD 6 = true := by decide

theorem wit_TuneRunsToReady :
    let s := sent 0x5800 1015 (sr [answer 0x2000] [.ok, .ok])
    s.pos = .start ∧ s.env.peekRead = .bytes (bytesOf 0x2000) ∧ s.env.peekWrite = .ok ∧
    s.env.popWrite.peekWrite = .ok ∧ (bytesOf 0x2000).length = 32 ∧
    ((bytesOf 0x2000).getD 0 0).getLsbD 5 = true := by decide

theorem wit_PollOutcomesAreClassified :
    (at' .seekPoll (sent 0x5001 0 (sr [answer 0x4000] [.ok]))).env.peekRead = .bytes (bytesOf 0x4000) ∧
    (bytesOf 0x4000).length = 32 ∧ (at' .seekPoll (sent 0x5001 0 (sr [answer 0x4000] [.ok]))).pos = .seekPoll ∧
    (∃ t, exec (.seek 0 1) (at' .seekPoll (sent 0x5001 0 (sr [answer 0x4000] [.ok]))) = .next t ∧
      t.pos = .seekExit .ok ∧ t.env.peekWrite = .ok) ∧
    (∃ t, exec .powerUp (at' .tunePoll (sent 0x4000 0 (sr [answer 0x2000] [.ok]))) = .next t ∧
      t.pos = .tuneExit .notFound ∧ t.env.peekWrite = .ok) ∧
    ∃ t, exec .tune (at' .tunePoll (sent 0x5800 0 (sr [answer 0] [.ok]))) = .next t ∧ t.pos = .tuneDelay :=
  ⟨by decide, by decide, by decide, ⟨_, rfl, by decide, by decide⟩, ⟨_, rfl, by decide, by decide⟩, _, rfl, by decide⟩

theorem wit_PollLoopsTestStatusThenBound :
    (at' .seekPoll (sent 0x5001 0 (sr [answer 0]))).env.peekRead = .bytes (bytesOf 0) ∧ (bytesOf 0).length = 32 ∧
    (at' .seekPoll (sent 0x5001 0 (sr [answer 0]))).pos = .seekPoll ∧
    (at' .tunePoll (sent 0x5800 0 (sr [answer 0]))).pos = .tunePoll ∧
    (at' .fetchPoll (sent 0x6000 0 (sr [answer 0]))).pos = .fetchPoll ∧
    (at' .fetchPoll (sent 0x6824 10 (sr [answer 0x8000 0x2012]))).env.peekRead = .bytes (bytesOf 0x8000 0x2012) ∧
    (sent 0x6000 0 (sr [answer 0])).pos = .start ∧
    (at' .seekDelay (sent 0x5001 0 (sr))).pos = .seekDelay ∧ (at' .tuneDelay (sent 0x5800 0 (sr))).pos = .tuneDelay ∧
    (at' .fetchDelay (sent 0x6000 0 (sr))).pos = .fetchDelay := by decide

/-- The bounds at their boundary: the tenth poll of a tune, and a seek, a fetch and a capture fetch at their deadline. -/
theorem test_poll_bounds :
    view (·.pos) (exec .tune { at' .tunePoll (sent 0x5800 0 (sr [answer 0])) with polls := 8 }) = some .tuneDelay ∧
    view (·.pos) (exec .tune { at' .tunePoll (sent 0x5800 0 (sr [answer 0])) with polls := 9 }) =
      some (.tuneExit .hwTimeout) ∧
    view (·.pos) (exec (.seek 0 1) { delaying with pos := .seekPoll, env := { env [answer 0x2000] [] with
      clock := some 60000 } }) = some (.seekExit .notFound) ∧
    view (·.pos) (exec .rdsDecode { at' .fetchPoll (sent 0x6000 0 (sr)) with env := { env [answer 0] [] with
      clock := some 999 } }) = some .fetchDelay ∧
    view (·.pos) (exec (.rdsCapture true 2 .a) { at' .fetchPoll (sent 0x6824 1 (sr)) with env := { env [answer 0] [] with
      clock := some 1000 } }) = some .captureTest := by decide

theorem wit_TriggersAreClearedOnExit :
    (at' (.seekExit .hwTimeout) (sent 0x5001 0 (sr [] [.ok]))).env.peekWrite = .ok ∧
    (at' (.seekExit .hwTimeout) (sent 0x5001 0 (sr [] [.ok]))).pos = .seekExit .hwTimeout ∧
    (at' (.tuneExit .ok) (sent 0x5800 0 (sr [] [.ok]))).pos = .tuneExit .ok ∧
    (at' (.exitDone .hwTimeout) (sent 0x5001 0 (sr))).pos = .exitDone .hwTimeout ∧
    (at' (.finish .hwTimeout) (sent 0x6000 0 (sr))).pos = .finish .hwTimeout := by decide

theorem wit_EndsWithinItsBound :
    (sent 0x5001 0 (sr)).pos = .start ∧ (sent 0x5800 0 (sr)).pos = .start ∧ (sent 0x4000 0 (s0)).pos = .start ∧
    (sent 0x6000 0 (sr)).pos = .start ∧ (sent 0x6800 10 (sr)).pos = .start ∧
    0 < (sent 0x5001 0 (sr)).env.params.tSeekPollMs ∧ 0 < (sent 0x5800 0 (sr)).env.params.nTunePolls ∧
    0 < (sent 0x4000 0 (s0)).env.params.nTunePolls ∧ 0 < (sent 0x6000 0 (sr)).env.params.tRdsPollMs ∧
    0 < (sent 0x6800 10 (sr)).env.params.tRdsPollMs ∧
    (sent 0x6800 10 (sr)).env.params.tRdsPollMs ≤ (sent 0x6800 10 (sr)).env.params.tRdsMs := by decide

theorem wit_SegmentWriteFillsOneSegment :
    [(0x41 : Byte), 0x42].length = segmentChars .ps ∧ 3 < segmentCount .ps ∧
    [(0x41 : Byte), 0x42, 0x43, 0x44].length = segmentChars .rt ∧ 15 < segmentCount .rt ∧ 0 < segmentCount .ptyn := by
  decide

theorem wit_DecodeOfAGroup : (group 0x2012 0x4142 0x4344).pos = .decodeGroup ∧
    (sent 0x7000 0 withText).pos = .start := by decide

theorem wit_DateGuardPassesOneRange : 51543 < 131072 ∧ 131071 < 131072 ∧
    dateOk (mjdToDate 51543).year (mjdToDate 51543).month (mjdToDate 51543).day = false ∧
    dateOk (mjdToDate 51544).year (mjdToDate 51544).month (mjdToDate 51544).day = true ∧
    dateOk (mjdToDate 88068).year (mjdToDate 88068).month (mjdToDate 88068).day = true ∧
    dateOk (mjdToDate 88069).year (mjdToDate 88069).month (mjdToDate 88069).day = false := by decide

theorem wit_RdsDecodeRunsOnOneGroup :
    (sent 0x6000 0 (sr [answer 0x8000 0x2012])).pos = .start ∧
    (sent 0x6000 0 (sr [answer 0x8000 0x2012])).env.peekRead = .bytes (bytesOf 0x8000 0x2012) ∧
    (bytesOf 0x8000 0x2012).length = 32 ∧ ((bytesOf 0x8000 0x2012).getD 0 0).getLsbD 7 = true := by decide

/-- A capture of 1000 ms at its deadline test, a matching group ready. -/
def testing : State := at' .captureTest (sent 0x6824 10 (sr [answer 0x8000 0x2012]))

/-- A capture of 100 ms at its deadline test, exactly at its deadline. -/
def expired : State := { at' .captureTest (sent 0x6824 1 (sr)) with env := { env [] [] with clock := some 100 } }

theorem wit_RdsCaptureEmitsMatchingGroups :
    (sent 0x6824 0 (sr)).pos = .start ∧ (sent 0x6824 0 (sr)).argCur = 0 ∧ (sent 0x6824 10 (sr)).argCur ≠ 0 ∧
    testing.pos = .captureTest ∧ testing.env.peekRead = .bytes (bytesOf 0x8000 0x2012) ∧
    testing.nowAnswer < testing.tc + testing.argCur.toNat * testing.env.params.captureUnitMs ∧
    (bytesOf 0x8000 0x2012).length = 32 ∧ ((bytesOf 0x8000 0x2012).getD 0 0).getLsbD 7 = true ∧
    expired.pos = .captureTest ∧
    expired.tc + expired.argCur.toNat * expired.env.params.captureUnitMs ≤ expired.nowAnswer ∧
    (at' .fetchPoll (sent 0x6824 10 (sr [answer 0]))).pos = .fetchPoll ∧
    (at' .fetchPoll (sent 0x6824 10 (sr [answer 0]))).env.peekRead = .bytes (bytesOf 0) ∧ (bytesOf 0).length = 32 ∧
    ((bytesOf 0).getD 0 0).getLsbD 7 = false ∧
    (at' .captureEmit (sent 0x6824 10 (sr))).pos = .captureEmit ∧
    (at' .captureDelay (sent 0x6824 10 (sr))).pos = .captureDelay := by decide

theorem wit_RdsCaptureKeepsTextAndIdentity :
    ∃ t, exec (.rdsCapture false 0 .a) (at' .captureEmit (sent 0x6800 10 (sr))) = .next t ∧ t.events.length = 1 :=
  ⟨_, rfl, by decide⟩

theorem wit_TextAndIdentityReads :
    (sent 0x7807 0 withText).pos = .start ∧ (7 : BitVec 6).toNat < textWidth .ps ∧ textWidth .ps ≤ (8 : BitVec 6).toNat ∧
    segmentCount .ptyn ≤ 2 ∧ (63 : BitVec 6).toNat < textWidth .rt := by decide

end Sys2Proof.Machine.Tests
end

section
/-! SUPPORT. The shadow invariant R49 of 10_state.md: what one step can do to `shadow_valid` and `STATE`, said once for
every command, and that every step from a sound state keeps `State.shadowOk`. -/

namespace Sys2Proof.Machine

/-! ## What a step of a command does to `shadow_valid` and `STATE` -/

/-- An operation that leaves `shadow_valid` and `STATE` as they are. -/
def KeepsShadow (k : State → State) : Prop :=
  ∀ s, (k s).shadowValid = s.shadowValid ∧ (k s).seqState = s.seqState

/-- What the step from `s` to `t` does to `shadow_valid` and `STATE`, for a command whose completion leaves `STATE` at
`e`: a successful read, a failed transaction (60_exceptions.md R286), nothing, or the completion. No case clears
`shadow_valid` (10_state.md R21). -/
inductive ShadowEffect (e : SeqState) (s t : State) : Prop where
  | read (valid : t.shadowValid = true) (state : t.seqState = s.seqState)
  | halted (valid : t.shadowValid = s.shadowValid) (state : t.seqState = .halted)
  | kept (valid : t.shadowValid = s.shadowValid) (state : t.seqState = s.seqState)
  | completed (valid : t.shadowValid = s.shadowValid) (state : t.seqState = e)

/-- The `STATE` a command's completion leaves when it ran in `st` (10_state.md R35, 42_tuning_fsm.md R170). -/
def completedState : Instr → SeqState → SeqState
  | .powerUp, _ | .seek _ _, _ | .tune, _ | .rdsDecode, _ | .rdsCapture _ _ _, _ => .ready
  | .powerDown, _ => .poweredDown
  | .nop, st | .readAll, st | .writeCfg, st | .shadowRd _, st | .shadowWr _, st | .fieldGet _, st | .fieldSet _, st
  | .fieldExtract _, st | .rdsReset, st | .accRd _ _ _, st | .accRecv _ _, st | .accCur _, st | .idRd _, st => st

namespace ShadowEffect

variable {e : SeqState} {s t : State}

theorem valid_of_valid (h : ShadowEffect e s t) (hs : s.shadowValid = true) : t.shadowValid = true := by
  cases h with
  | read valid _ => exact valid
  | halted valid _ | kept valid _ | completed valid _ => exact valid.trans hs

/-- Staging before a step does not change what the step does. -/
theorem of_staged {k : State → State} (hk : KeepsShadow k) (h : ShadowEffect e (k s) t) : ShadowEffect e s t := by
  obtain ⟨hv, hq⟩ := hk s
  cases h with
  | read valid state => exact .read valid (state.trans hq)
  | halted valid state => exact .halted (valid.trans hv) state
  | kept valid state => exact .kept (valid.trans hv) (state.trans hq)
  | completed valid state => exact .completed (valid.trans hv) state

theorem of_keepsShadow {k : State → State} (hk : KeepsShadow k) : ShadowEffect e s (k s) :=
  .kept (hk s).1 (hk s).2

end ShadowEffect

/-! ## The shared parts of the commands -/

theorem keepsShadow_goto (p : SeqPos) : KeepsShadow (goto p) := fun _ => ⟨rfl, rfl⟩

theorem keepsShadow_raise (e : ErrCode) : KeepsShadow (raise e) := fun _ => ⟨rfl, rfl⟩

theorem keepsShadow_setField (f : FieldRow) (a : Word) : KeepsShadow (·.setField f a) := fun _ => ⟨rfl, rfl⟩

theorem keepsShadow_tuneTest : KeepsShadow tuneTest := fun s => by
  rcases tuneTest_cases s with ⟨_, h⟩ | ⟨_, h⟩ <;> exact h ▸ ⟨rfl, rfl⟩

theorem keepsShadow_seekTest : KeepsShadow seekTest := fun s => by
  rcases seekTest_cases s with ⟨_, h⟩ | ⟨_, _, h⟩ | ⟨_, _, h⟩ <;> exact h ▸ ⟨rfl, rfl⟩

theorem keepsShadow_fetchTest {group none : State → State} (hg : KeepsShadow group) (hn : KeepsShadow none) :
    KeepsShadow (fetchTest group none) := fun s => by
  rcases fetchTest_cases group none s with ⟨_, h⟩ | ⟨_, _, h⟩ | ⟨_, _, h⟩
  · exact h ▸ hg s
  · exact h ▸ hn s.tickNow
  · exact h ▸ ⟨rfl, rfl⟩

theorem keepsShadow_captureGroup (fen : Bool) (gt : BitVec 4) (gv : GroupVer) :
    KeepsShadow (captureGroup fen gt gv) := fun s => by
  rcases captureGroup_cases fen gt gv s with ⟨_, h⟩ | ⟨_, h⟩ <;> exact h ▸ ⟨rfl, rfl⟩

theorem keepsShadow_decodeStep : KeepsShadow decodeStep := fun s => by
  obtain ⟨acc, es, _, h⟩ := decodeBlocks_shape (s.reg 0xC) (s.reg 0xD) (s.reg 0xE) (s.reg 0xF) s
  rw [decodeStep, h]
  exact ⟨rfl, rfl⟩

section
variable {e : SeqState} {k : State → State}

/-- A bus read sets `shadow_valid` or halts the block (40_transactions.md R121, 60_exceptions.md R286). -/
theorem readAll_shadowEffect (hk : KeepsShadow k) (s : State) : ShadowEffect e s (readAll k s) := by
  rcases readAll_cases k s with ⟨b, _, _, h⟩ | ⟨_, h⟩
  · exact h ▸ .read (hk _).1 (hk _).2
  · exact h ▸ .halted rfl rfl

/-- A bus write leaves the shadow's validity and, unless it fails, `STATE` (40_transactions.md R122). -/
theorem writeCfg_shadowEffect (hk : KeepsShadow k) (s : State) : ShadowEffect e s (writeCfg k s) := by
  rcases writeCfg_cases k s with ⟨_, h⟩ | ⟨_, h⟩
  · exact h ▸ .kept (hk _).1 (hk _).2
  · exact h ▸ .halted rfl rfl

theorem tuneTriggerStep_shadowEffect (f : Word) (s : State) : ShadowEffect e s (tuneTriggerStep f s) :=
  .of_staged (k := fun s => (s.setField Field.chan (BitVec.ofNat 16 (freqToChan f))).setField Field.tune 1)
    (fun _ => ⟨rfl, rfl⟩)
    (writeCfg_shadowEffect (k := fun s => { s with polls := 0, pos := .tunePoll }) (fun _ => ⟨rfl, rfl⟩) _)

theorem tunePollStep_shadowEffect (s : State) : ShadowEffect e s (tunePollStep s) :=
  readAll_shadowEffect keepsShadow_tuneTest s

theorem tuneExitStep_shadowEffect (o : OutcomeCode) (s : State) : ShadowEffect e s (tuneExitStep o s) :=
  .of_staged (keepsShadow_setField _ _) (writeCfg_shadowEffect (keepsShadow_goto _) _)

theorem seekPollStep_shadowEffect (s : State) : ShadowEffect e s (seekPollStep s) :=
  readAll_shadowEffect keepsShadow_seekTest s

theorem seekExitStep_shadowEffect (o : OutcomeCode) (s : State) : ShadowEffect e s (seekExitStep o s) :=
  .of_staged (keepsShadow_setField _ _) (writeCfg_shadowEffect (keepsShadow_goto _) _)

theorem fetchPollStep_shadowEffect {group none : State → State} (hg : KeepsShadow group) (hn : KeepsShadow none)
    (s : State) : ShadowEffect e s (fetchPollStep group none s) :=
  readAll_shadowEffect (keepsShadow_fetchTest hg hn) s

theorem fetchStart_shadowEffect {group none : State → State} (hg : KeepsShadow group) (hn : KeepsShadow none)
    (s : State) : ShadowEffect e s (fetchStart group none s) :=
  .of_staged (k := sampleT0) (fun _ => ⟨rfl, rfl⟩) (fetchPollStep_shadowEffect hg hn _)

/-- The deadline test of a capture completes it in READY or begins a fetch cycle (43_rds_decoder.md R241). -/
theorem captureTestStep_shadowEffect (fen : Bool) (gt : BitVec 4) (gv : GroupVer) (s : State) :
    ShadowEffect .ready s (captureTestStep fen gt gv s) := by
  rcases deadline_cases s.tc (s.argCur.toNat * s.env.params.captureUnitMs) (completeIn .ready .ok)
    (fetchStart (captureGroup fen gt gv) captureNone) s with ⟨_, h⟩ | ⟨_, h⟩
  · rw [captureTestStep, h]
    exact .completed rfl rfl
  · rw [captureTestStep, h]
    exact .of_staged (k := State.tickNow) (fun _ => ⟨rfl, rfl⟩)
      (fetchStart_shadowEffect (keepsShadow_captureGroup fen gt gv) (keepsShadow_goto _) _)

/-- Outside a command's own positions a running command only reports its pending error (60_exceptions.md R282). -/
theorem offSequence_shadowEffect {i : Instr} {s t : State} (hp : s.pos ≠ .idle) (h : offSequence i s = .next t) :
    ShadowEffect e s t := by
  rcases offSequence_cases h with ⟨hi, _⟩ | ⟨c, _, rfl⟩
  · exact absurd hi hp
  · exact .of_keepsShadow (keepsShadow_raise c)

end

/-! ## The commands -/

section
variable {s t : State}

theorem execPowerUp_shadowEffect (hp : s.pos ≠ .idle) (h : execPowerUp s = .next t) : ShadowEffect .ready s t := by
  unfold execPowerUp at h
  split at h
  case h_11 => exact offSequence_shadowEffect hp h
  all_goals obtain rfl := Host.Outcome.next.inj h
  · exact readAll_shadowEffect (keepsShadow_goto _) s
  · exact .of_staged (keepsShadow_setField _ _) (writeCfg_shadowEffect (keepsShadow_goto _) _)
  · exact .kept rfl rfl
  · exact .of_staged (k := stagePowerUp) (fun _ => ⟨rfl, rfl⟩) (writeCfg_shadowEffect (keepsShadow_goto _) _)
  · exact .kept rfl rfl
  · exact tuneTriggerStep_shadowEffect _ s
  · exact tunePollStep_shadowEffect s
  · exact .kept rfl rfl
  · exact tuneExitStep_shadowEffect _ s
  · exact .completed rfl rfl

theorem execPowerDown_shadowEffect (hp : s.pos ≠ .idle) (h : execPowerDown s = .next t) :
    ShadowEffect .poweredDown s t := by
  unfold execPowerDown at h
  split at h
  case h_4 => exact offSequence_shadowEffect hp h
  all_goals obtain rfl := Host.Outcome.next.inj h
  · exact .of_staged (k := stagePowerDown) (fun _ => ⟨rfl, rfl⟩) (writeCfg_shadowEffect (keepsShadow_goto _) _)
  · exact .kept rfl rfl
  · exact .completed rfl rfl

theorem execSeek_shadowEffect {mode up : BitVec 1} (hp : s.pos ≠ .idle) (h : execSeek mode up s = .next t) :
    ShadowEffect .ready s t := by
  unfold execSeek at h
  split at h
  case h_6 => exact offSequence_shadowEffect hp h
  all_goals obtain rfl := Host.Outcome.next.inj h
  · exact .of_staged (k := stageSeek mode up) (fun _ => ⟨rfl, rfl⟩)
      (writeCfg_shadowEffect (k := fun s => goto .seekPoll (sampleT0 s)) (fun _ => ⟨rfl, rfl⟩) _)
  · exact seekPollStep_shadowEffect s
  · exact .kept rfl rfl
  · exact seekExitStep_shadowEffect _ s
  · exact .completed rfl rfl

theorem execTune_shadowEffect (hp : s.pos ≠ .idle) (h : execTune s = .next t) : ShadowEffect .ready s t := by
  unfold execTune at h
  split at h
  case h_6 => exact offSequence_shadowEffect hp h
  all_goals obtain rfl := Host.Outcome.next.inj h
  · exact tuneTriggerStep_shadowEffect _ s
  · exact tunePollStep_shadowEffect s
  · exact .kept rfl rfl
  · exact tuneExitStep_shadowEffect _ s
  · exact .completed rfl rfl

theorem execRdsDecode_shadowEffect (hp : s.pos ≠ .idle) (h : execRdsDecode s = .next t) :
    ShadowEffect .ready s t := by
  unfold execRdsDecode at h
  split at h
  case h_6 => exact offSequence_shadowEffect hp h
  all_goals obtain rfl := Host.Outcome.next.inj h
  · exact fetchStart_shadowEffect (keepsShadow_goto _) (keepsShadow_goto _) s
  · exact fetchPollStep_shadowEffect (keepsShadow_goto _) (keepsShadow_goto _) s
  · exact .kept rfl rfl
  · exact .of_staged keepsShadow_decodeStep (.of_keepsShadow (keepsShadow_goto _))
  · exact .completed rfl rfl

theorem execRdsCapture_shadowEffect {fen : Bool} {gt : BitVec 4} {gv : GroupVer} (hp : s.pos ≠ .idle)
    (h : execRdsCapture fen gt gv s = .next t) : ShadowEffect .ready s t := by
  unfold execRdsCapture at h
  split at h
  case h_7 => exact offSequence_shadowEffect hp h
  all_goals obtain rfl := Host.Outcome.next.inj h
  · exact .of_staged (k := sampleTc) (fun _ => ⟨rfl, rfl⟩) (captureTestStep_shadowEffect fen gt gv _)
  · exact captureTestStep_shadowEffect fen gt gv s
  · exact fetchPollStep_shadowEffect (keepsShadow_captureGroup fen gt gv) (keepsShadow_goto _) s
  · exact .kept rfl rfl
  · exact .kept rfl rfl
  · exact .kept rfl rfl

theorem execReadAll_shadowEffect {e : SeqState} (hp : s.pos ≠ .idle) (h : execReadAll s = .next t) :
    ShadowEffect e s t := by
  unfold execReadAll at h
  split at h
  case h_3 => exact offSequence_shadowEffect hp h
  all_goals obtain rfl := Host.Outcome.next.inj h
  · exact readAll_shadowEffect (keepsShadow_goto _) s
  · exact .kept rfl rfl

theorem execWriteCfg_shadowEffect {e : SeqState} (hp : s.pos ≠ .idle) (h : execWriteCfg s = .next t) :
    ShadowEffect e s t := by
  unfold execWriteCfg at h
  split at h
  case h_3 => exact offSequence_shadowEffect hp h
  all_goals obtain rfl := Host.Outcome.next.inj h
  · split
    · exact writeCfg_shadowEffect (keepsShadow_goto _) s
    · exact .kept rfl rfl
  · exact .kept rfl rfl

theorem execFieldGet_shadowEffect {e : SeqState} {fid : BitVec 6} (hp : s.pos ≠ .idle)
    (h : execFieldGet fid s = .next t) : ShadowEffect e s t := by
  unfold execFieldGet at h
  split at h
  case h_3 => exact offSequence_shadowEffect hp h
  all_goals obtain rfl := Host.Outcome.next.inj h
  · split_ifs
    · exact .kept rfl rfl
    · exact readAll_shadowEffect (keepsShadow_goto _) s
    · exact .kept rfl rfl
    · exact .kept rfl rfl
  · exact .kept rfl rfl

/-- One step of a running command changes `shadow_valid` and `STATE` only by a successful read, a failed transaction or
the command's completion. -/
theorem exec_shadowEffect {i : Instr} (hp : s.pos ≠ .idle) (h : exec i s = .next t) :
    ShadowEffect (completedState i s.seqState) s t := by
  cases i
  case powerUp => exact execPowerUp_shadowEffect hp h
  case powerDown => exact execPowerDown_shadowEffect hp h
  case seek => exact execSeek_shadowEffect hp h
  case tune => exact execTune_shadowEffect hp h
  case rdsDecode => exact execRdsDecode_shadowEffect hp h
  case rdsCapture => exact execRdsCapture_shadowEffect hp h
  case readAll => exact execReadAll_shadowEffect hp h
  case writeCfg => exact execWriteCfg_shadowEffect hp h
  case fieldGet => exact execFieldGet_shadowEffect hp h
  -- the commands of one step and no transaction: first those without checks of their own, then those with
  case nop | rdsReset | accRecv | accCur | idRd =>
    simp only [exec, execNop, execRdsReset, execAccRecv, execAccCur, execIdRd] at h
    split at h
    · obtain rfl := Host.Outcome.next.inj h
      exact .kept rfl rfl
    · exact offSequence_shadowEffect hp h
  case shadowRd | shadowWr | fieldSet | fieldExtract | accRd =>
    simp only [exec, execShadowRd, execShadowWr, execFieldSet, execFieldExtract, execAccRd] at h
    split at h
    · obtain rfl := Host.Outcome.next.inj h
      split_ifs <;> exact .kept rfl rfl
    · exact offSequence_shadowEffect hp h

end

/-! ## The invariant -/

/-- R49 by the states that need no valid shadow. -/
theorem shadowOk_iff (s : State) : s.shadowOk = true ↔ s.shadowValid = true ∨ s.seqState = .poweredDown ∨
    s.seqState = .halted ∨ (s.seqState = .poweringUp ∧ s.pos = .start) := by
  unfold State.shadowOk
  cases s.seqState <;> simp

/-- A command that can run in POWERED_DOWN completes there (10_state.md R35). -/
theorem completedState_poweredDown {i : Instr} :
    runsIn i .poweredDown = true → completedState i .poweredDown = .poweredDown := by
  cases i <;> simp [runsIn, completedState]

theorem runsIn_halted (i : Instr) : runsIn i .halted = false := by cases i <;> rfl

theorem eq_powerUp_of_runsIn {i : Instr} : runsIn i .poweringUp = true → i = .powerUp := by
  cases i <;> simp [runsIn]

/-- Only POWER_UP leaves POWERED_DOWN on acceptance (60_exceptions.md R283, 42_tuning_fsm.md R170). -/
theorem enteredState_poweredDown {i : Instr} : legalIn i .poweredDown = true →
    enteredState i .poweredDown = .poweredDown ∨ enteredState i .poweredDown = .poweringUp := by
  cases i <;> simp [legalIn, enteredState]

section
variable {s t : State}

/-- A running command keeps R49: with a valid shadow because nothing clears it, without one because the command then runs
in POWERED_DOWN and stays there, or is POWER_UP about to read. -/
theorem exec_keeps_shadowOk {i : Instr} (hrun : runsIn i s.seqState = true) (hs : s.shadowOk = true)
    (hp : s.pos ≠ .idle) (h : exec i s = .next t) : t.shadowOk = true := by
  rw [shadowOk_iff] at hs ⊢
  rcases hs with hv | hq | hq | ⟨hq, hstart⟩
  · exact .inl ((exec_shadowEffect hp h).valid_of_valid hv)
  · rw [hq] at hrun
    have heff := exec_shadowEffect hp h
    rw [hq, completedState_poweredDown hrun] at heff
    cases heff with
    | read valid _ => exact .inl valid
    | halted _ state => exact .inr (.inr (.inl state))
    | kept _ state => exact .inr (.inl (state.trans hq))
    | completed _ state => exact .inr (.inl state)
  · rw [hq, runsIn_halted] at hrun
    cases hrun
  · rw [hq] at hrun
    obtain rfl := eq_powerUp_of_runsIn hrun
    simp only [exec, execPowerUp, hstart] at h
    obtain rfl := Host.Outcome.next.inj h
    rcases readAll_cases (goto .xoscWrite) s with ⟨b, _, _, hr⟩ | ⟨_, hr⟩
    · exact .inl (by rw [hr]; rfl)
    · exact .inr (.inr (.inl (by rw [hr]; rfl)))

/-- Accepting a command keeps R49: without a valid shadow only POWER_UP and commands that stay in POWERED_DOWN pass the
checks. -/
theorem accept_keeps_shadowOk (w : Word) (hs : s.shadowOk = true) (hp : s.pos = .idle) :
    (accept w s).shadowOk = true := by
  rw [shadowOk_iff] at hs ⊢
  rcases accept_cases w s with ⟨e, _, ha⟩ | ⟨i, hi, ha⟩ <;> rw [ha]
  · exact hs.imp_right (Or.imp_right (Or.imp_right fun ⟨_, hstart⟩ => absurd (hp ▸ hstart) (by decide)))
  · obtain ⟨hnot, _, hlegal⟩ := check_eq_ok.1 hi
    rcases hs with hv | hq | hq | ⟨_, hstart⟩
    · exact .inl hv
    · rw [hq] at hlegal
      rcases enteredState_poweredDown hlegal with he | he
      · exact .inr (.inl (hq ▸ he))
      · exact .inr (.inr (.inr ⟨hq ▸ he, rfl⟩))
    · exact absurd hq hnot
    · exact absurd (hp ▸ hstart) (by decide)

/-- The three things a turn of the block can be: idling, the report of a pending error, a step of the latched command. -/
theorem blockStep_cases (h : blockStep s = .next t) :
    (s.pos = .idle ∧ t = s) ∨ (∃ e, s.pos = .reject e ∧ t = raise e s) ∨
      (∃ i, decode s.cwCur = .command i ∧ s.pos ≠ .idle ∧ (∀ e, s.pos ≠ .reject e) ∧ exec i s = .next t) := by
  unfold blockStep State.busy at h
  by_cases hp : s.pos = .idle
  · simp only [hp, ne_eq, not_true, decide_false, Bool.false_eq_true, if_false] at h
    exact .inl ⟨hp, (Host.Outcome.next.inj h).symm⟩
  · simp only [hp, ne_eq, not_false_eq_true, decide_true, if_true] at h
    cases hd : decode s.cwCur with
    | command i =>
      rw [hd] at h
      by_cases hr : ∃ e, s.pos = .reject e
      · obtain ⟨e, hr⟩ := hr
        exact .inr (.inl ⟨e, hr, (Host.Outcome.next.inj ((exec_of_reject i hr).symm.trans h)).symm⟩)
      · exact .inr (.inr ⟨i, rfl, hp, not_exists.1 hr, h⟩)
    | rejected d =>
      simp only [hd] at h
      split at h
      · exact .inr (.inl ⟨_, by assumption, (Host.Outcome.next.inj h).symm⟩)
      · cases h

/-- In a sound state a command with no error pending runs in the `STATE` that is its own. -/
theorem runsIn_of_sequenceOk {i : Instr} (hs : s.sequenceOk = true) (hi : s.pos ≠ .idle)
    (hr : ∀ e, s.pos ≠ .reject e) (hd : decode s.cwCur = .command i) : runsIn i s.seqState = true := by
  unfold State.sequenceOk at hs
  split at hs
  · exact absurd (by assumption) hi
  · exact absurd (by assumption) (hr _)
  · rw [hd] at hs
    exact (Bool.and_eq_true_iff.1 hs).2

/-- A turn of the block keeps R49. -/
theorem blockStep_keeps_shadowOk (hseq : s.sequenceOk = true) (hs : s.shadowOk = true) (h : blockStep s = .next t) :
    t.shadowOk = true := by
  rcases blockStep_cases h with ⟨_, rfl⟩ | ⟨e, hr, rfl⟩ | ⟨i, hd, hp, hr, hx⟩
  · exact hs
  · rw [shadowOk_iff] at hs ⊢
    exact hs.imp_right (Or.imp_right (Or.imp_right fun ⟨_, hstart⟩ => absurd (hr ▸ hstart) nofun))
  · exact exec_keeps_shadowOk (runsIn_of_sequenceOk hseq hp hr hd) hs hp hx

/-- A host write keeps R49: a CMD write accepts or drops a command, the others touch neither flag nor `STATE`. -/
theorem hostWrite_keeps_shadowOk (off : BitVec 3) (v : Word) (hs : s.shadowOk = true) :
    (hostWrite off v s).shadowOk = true := by
  unfold hostWrite
  split
  · unfold writeCmd
    split
    · exact hs
    · next hb => exact accept_keeps_shadowOk v hs (by simpa [State.busy] using hb)
  · exact hs
  · exact hs

/-- Whatever happens at a step boundary keeps R49. -/
theorem actStep_keeps_shadowOk {a : HostAct} (hseq : s.sequenceOk = true) (hs : s.shadowOk = true)
    (h : actStep a s = .next t) : t.shadowOk = true := by
  cases a with
  | turn => exact blockStep_keeps_shadowOk hseq hs h
  | write off v =>
    obtain rfl := Host.Outcome.next.inj h
    exact hostWrite_keeps_shadowOk off v hs
  | read off =>
    obtain rfl := Host.Outcome.next.inj h
    exact hs
  | rst =>
    obtain rfl := Host.Outcome.next.inj h
    rfl

/-- Every step from a sound state keeps R49, with its clause for a running POWER_UP. -/
theorem step_keeps_shadowOk (hseq : s.sequenceOk = true) (hs : s.shadowOk = true) (h : step s = .next t) :
    t.shadowOk = true := by
  unfold step at h
  split at h
  · exact blockStep_keeps_shadowOk hseq hs h
  · exact actStep_keeps_shadowOk (s := popAgenda s) hseq hs h

end

/-- Settles O9: every step keeps `State.shadowOk`, which is R49 with a clause for POWER_UP. -/
theorem readyStatesHaveAValidShadow : Obligations.ReadyStatesHaveAValidShadow := by
  intro s t hs h hstate
  simp only [State.consistent, Bool.and_eq_true] at hs
  obtain ⟨⟨⟨⟨hseq, hshadow⟩, _⟩, _⟩, _⟩ := hs
  have ht := step_keeps_shadowOk hseq hshadow h
  rcases hstate with hq | hq | hq | hq | hq <;> simpa only [State.shadowOk, hq] using ht

end Sys2Proof.Machine
end

section
/-! SUPPORT. The framing of the two bus transactions (20_memory.md R62, R63): what the shadow holds after a read, which
bytes a write sends, and the steps of READ_ALL and WRITE_CFG, the two commands that are one such transaction. -/

namespace Sys2Proof.Machine

/-! ## Framing -/

/-- The un-rotation undoes the rotation of the stream: pair `j` is found in register `(0x0A + j) mod 16` because
`(0x0A + j) + 6` is `j` modulo 16 (R62). -/
theorem holdsStream_afterRead (b : List Byte) (s : State) : holdsStream (afterRead b s) b := by
  intro j hj
  have hpair : ((0x0A + j) % 16 % 2 ^ 4 + 6) % 16 = j := by omega
  rw [reg_afterRead, BitVec.toNat_ofNat, hpair, wordAt]

theorem readBytes_afterRead (b : List Byte) (s : State) : readBytes s (afterRead b s) b := afterRead_bus b s

/-- The bytes on the wire are registers 0x02 to 0x07, high byte first (R63, R65). -/
theorem writeImage_eq_configBytes (s : State) : writeImage s = configBytes s := rfl

/-- A write sends the registers of the state it leaves, because it changes none of them (R63). -/
theorem wroteConfig_afterWrite (s : State) : wroteConfig s (afterWrite s) := by
  rw [wroteConfig, afterWrite_bus, writeImage_eq_configBytes]
  simp only [configBytes, afterWrite_reg]

theorem reports_raise (e : ErrCode) (s : State) : reports e s (raise e s) := rfl

/-! ## The steps of READ_ALL and WRITE_CFG -/

section
variable {s : State}

theorem exec_readAll_start (h : s.pos = .start) : exec .readAll s = .next (readAll (goto (.finish .ok)) s) := by
  simp only [exec, execReadAll, h]

theorem exec_readAll_finish {o : OutcomeCode} (h : s.pos = .finish o) : exec .readAll s = .next (complete o s) := by
  simp only [exec, execReadAll, h]

theorem exec_writeCfg_start_unsynced (h : s.pos = .start) (hv : s.shadowValid = false) :
    exec .writeCfg s = .next (raise .notSynced s) := by
  simp only [exec, execWriteCfg, h, hv, Bool.false_eq_true, if_false]

theorem exec_writeCfg_start_synced (h : s.pos = .start) (hv : s.shadowValid = true) :
    exec .writeCfg s = .next (writeCfg (goto (.finish .ok)) s) := by
  simp only [exec, execWriteCfg, h, hv, if_true]

theorem exec_writeCfg_finish {o : OutcomeCode} (h : s.pos = .finish o) : exec .writeCfg s = .next (complete o s) := by
  simp only [exec, execWriteCfg, h]

end

/-- Settles O29: the first step is the read, whose state holds the stream un-rotated; the second completes. -/
theorem readAllUnrotatesTheStream : Obligations.ReadAllUnrotatesTheStream := by
  intro s b hstart hread hlen
  have hfirst : exec .readAll s = .next (goto (.finish .ok) (afterRead b s)) := by
    rw [exec_readAll_start hstart, readAll_ok _ hread hlen]
  exact ⟨_, hfirst, holdsStream_afterRead b s, rfl, readBytes_afterRead b s, rfl, exec_readAll_finish rfl⟩

/-- Settles O30: the shadow check decides the first step; after a write answered `Ok` the second step completes. -/
theorem writeCfgSendsTheWriteWindow : Obligations.WriteCfgSendsTheWriteWindow := by
  intro s hstart
  constructor
  · intro hunsynced
    exact ⟨_, exec_writeCfg_start_unsynced hstart hunsynced, reports_raise .notSynced s⟩
  · intro hsynced hwrite
    have hfirst : exec .writeCfg s = .next (goto (.finish .ok) (afterWrite s)) := by
      rw [exec_writeCfg_start_synced hstart hsynced, writeCfg_ok _ hwrite]
    exact ⟨_, hfirst, wroteConfig_afterWrite s, rfl, exec_writeCfg_finish rfl⟩

end Sys2Proof.Machine
end

section
/-! SUPPORT. The field decoder (41_field_decoder.md R140 to R148): what insert and extract do to the bits of a register,
the facts about the rows of the field table that make its fields independent, and the frequency mapping. -/

namespace Sys2Proof.Machine

/-! ## Insert and extract -/

/-- A row whose mask is the `width` ones from bit `offset` up, inside the 16 bits of a register (R140). -/
def FieldRow.WellFormed (f : FieldRow) : Prop :=
  f.offset + f.width ≤ 16 ∧ f.mask = (BitVec.allOnes f.width).setWidth 16 <<< f.offset

/-- Insert leaves alone every bit outside the field's mask (R141). -/
theorem FieldRow.set_and_of_disjoint {f : FieldRow} {m : Word} (hdisj : f.mask &&& m = 0) (v a : Word) :
    f.set v a &&& m = v &&& m := by
  ext k hk
  have hbit : (f.mask[k] && m[k]) = false := by simpa using congrArg (·[k]) hdisj
  cases hf : f.mask[k] with
  | false => simp [FieldRow.set, hf]
  | true =>
    have hm : m[k] = false := by simpa [hf] using hbit
    simp [hm]

/-- Insert puts the value at the field's place, cut to the mask (R141). -/
theorem FieldRow.set_and_mask (f : FieldRow) (v a : Word) : f.set v a &&& f.mask = (a <<< f.offset) &&& f.mask := by
  ext k hk
  cases hf : f.mask[k] <;> simp [FieldRow.set, hf]

theorem FieldRow.get_set_of_disjoint {f g : FieldRow} (hdisj : f.mask &&& g.mask = 0) (v a : Word) :
    g.get (f.set v a) = g.get v := by
  rw [FieldRow.get, FieldRow.set_and_of_disjoint hdisj, ← FieldRow.get]

/-- A value below `2^width` fits the field: shifted to its place the mask cuts nothing off, and shifting back returns it. -/
theorem FieldRow.get_set {f : FieldRow} (hf : f.WellFormed) (v : Word) {a : Word} (ha : a.toNat < 2 ^ f.width) :
    f.get (f.set v a) = a := by
  obtain ⟨hfit, hmask⟩ := hf
  rw [FieldRow.get, FieldRow.set_and_mask, hmask]
  apply BitVec.eq_of_getLsbD_eq
  intro k hk
  by_cases hw : k < f.width
  · have hplace : f.offset + k < 16 := by omega
    simp [hplace, hk, hw]
  · have hzero : a.getLsbD k = false :=
      Nat.testBit_lt_two_pow (ha.trans_le (Nat.pow_le_pow_right (by decide) (not_lt.1 hw)))
    simp [hw, hzero]

/-! ## The rows of the field table -/

theorem fieldTable_places : fieldTable.map (fun f => (f.reg, f.offset, f.width)) = fieldPlaces := by decide

theorem wellFormed_of_mem_fieldTable : ∀ f ∈ fieldTable, f.WellFormed := by
  unfold FieldRow.WellFormed
  decide

/-- Fields of one register have masks with no bit in common (R142). -/
def FieldRow.Disjoint (f g : FieldRow) : Prop := f.reg = g.reg → f.mask &&& g.mask = 0

theorem FieldRow.Disjoint.symm {f g : FieldRow} (h : f.Disjoint g) : g.Disjoint f := fun hreg =>
  (BitVec.and_comm _ _).trans (h hreg.symm)

/-- Each row against those after it in the table. -/
theorem fieldTable_pairwise_disjoint : fieldTable.Pairwise FieldRow.Disjoint := by
  unfold FieldRow.Disjoint
  decide

theorem disjoint_of_mem_fieldTable {f g : FieldRow} (hf : f ∈ fieldTable) (hg : g ∈ fieldTable) (hne : f ≠ g) :
    f.Disjoint g :=
  have : Std.Symm FieldRow.Disjoint := ⟨fun _ _ => FieldRow.Disjoint.symm⟩
  fieldTable_pairwise_disjoint.forall hf hg hne

/-- Settles O34: one comparison for each of the 16 registers. -/
theorem unnamedMasksAreTheComplement : Obligations.UnnamedMasksAreTheComplement := by
  unfold Obligations.UnnamedMasksAreTheComplement
  decide

/-- A bit is in the union of the masks of `fs` when it is in one of them. -/
theorem getLsbD_union_masks (fs : List FieldRow) (m : Word) (k : Nat) :
    (fs.foldl (fun m f => m ||| f.mask) m).getLsbD k = (m.getLsbD k || fs.any (·.mask.getLsbD k)) := by
  induction fs generalizing m with
  | nil => simp
  | cons f fs ih => simp [ih, Bool.or_assoc]

/-- No field reaches an unnamed bit of its register, because its mask is part of the union (R144). -/
theorem mask_and_unnamed {f : FieldRow} (hf : f ∈ fieldTable) {m : Word} (hm : unnamedOf[f.reg.toNat]? = some m) :
    f.mask &&& m = 0 := by
  obtain rfl := Option.some.inj ((unnamedMasksAreTheComplement f.reg).symm.trans hm)
  apply BitVec.eq_of_getLsbD_eq
  intro k hk
  cases hbit : f.mask.getLsbD k with
  | false => simp [hbit]
  | true =>
    have hmem : f ∈ fieldTable.filter fun g => g.reg = f.reg := List.mem_filter.2 ⟨hf, decide_eq_true rfl⟩
    have hany : (fieldTable.filter fun g => g.reg = f.reg).any (·.mask.getLsbD k) = true :=
      List.any_eq_true.2 ⟨f, hmem, hbit⟩
    rw [BitVec.getLsbD_and, BitVec.getLsbD_not, getLsbD_union_masks, hany]
    simp

/-- Settles O33: the rows are well formed, and disjoint from each other and from the unnamed bits of their register. -/
theorem fieldsDoNotInterfere : Obligations.FieldsDoNotInterfere := by
  refine ⟨fieldTable_places, fun f hf v a ha => ⟨?_, ?_, ?_⟩, fun f hf g hg hreg hne => ?_⟩
  · exact FieldRow.get_set (wellFormed_of_mem_fieldTable f hf) v ha
  · intro g hg hreg hne
    exact FieldRow.get_set_of_disjoint (disjoint_of_mem_fieldTable hf hg hne.symm hreg.symm) v a
  · intro m hm
    exact FieldRow.set_and_of_disjoint (mask_and_unnamed hf hm) v a
  · exact disjoint_of_mem_fieldTable hf hg hne hreg

/-! ## Frequencies -/

/-- Subtracting `F_LOW` loses nothing after the clamp, so the way back gives the clamped frequency (R147). -/
theorem chanToFreq_freqToChan (f : Word) : chanToFreq (freqToChan f) = min (max f.toNat 875) 1080 := by
  simp only [chanToFreq, freqToChan, fLow, fHigh]
  omega

/-- The highest channel is that of 108.0 MHz (R147). -/
theorem freqToChan_le (f : Word) : freqToChan f ≤ 205 := by
  simp only [freqToChan, fLow, fHigh]
  omega

/-- Settles O38: the round trip is the clamp, which is the identity inside the band and the nearer edge outside it. -/
theorem frequencyRoundTripAndClamp : Obligations.FrequencyRoundTripAndClamp := by
  intro f
  rw [chanToFreq_freqToChan]
  exact ⟨by omega, by omega, by omega, (freqToChan_le f).trans_lt (by decide)⟩

end Sys2Proof.Machine
end

section
/-! SUPPORT. The tuning state machine (42_tuning_fsm.md): the steps of SEEK, TUNE and POWER_UP in their poll loops, where
the exit tests of a loop lead (R175, R176, R178), and how the trigger-clear exit completes the command (R179). -/

namespace Sys2Proof.Machine

/-! ## The steps of the poll loops -/

section
variable {s : State} {i : Instr} {mode up : BitVec 1} {o : OutcomeCode}

theorem exec_seek_seekPoll (h : s.pos = .seekPoll) : exec (.seek mode up) s = .next (seekPollStep s) := by
  simp only [exec, execSeek, h]

theorem exec_seek_seekExit (h : s.pos = .seekExit o) : exec (.seek mode up) s = .next (seekExitStep o s) := by
  simp only [exec, execSeek, h]

theorem exec_seek_exitDone (h : s.pos = .exitDone o) : exec (.seek mode up) s = .next (exitDoneStep o s) := by
  simp only [exec, execSeek, h]

/-- TUNE and POWER_UP share TuneSeq (R171, R174, R175). -/
theorem exec_tunePoll (hi : i = .tune ∨ i = .powerUp) (h : s.pos = .tunePoll) :
    exec i s = .next (tunePollStep s) := by
  rcases hi with rfl | rfl
  · simp only [exec, execTune, h]
  · simp only [exec, execPowerUp, h]

theorem exec_tuneExit (hi : i = .tune ∨ i = .powerUp) (h : s.pos = .tuneExit o) :
    exec i s = .next (tuneExitStep o s) := by
  rcases hi with rfl | rfl
  · simp only [exec, execTune, h]
  · simp only [exec, execPowerUp, h]

theorem exec_tune_exitDone (hi : i = .tune ∨ i = .powerUp) (h : s.pos = .exitDone o) :
    exec i s = .next (exitDoneStep o s) := by
  rcases hi with rfl | rfl
  · simp only [exec, execTune, h]
  · simp only [exec, execPowerUp, h]

end

/-! ## The exit tests -/

/-- The exit tests leave the shadow as the poll read left it. -/
theorem tuneTest_x (s : State) : (tuneTest s).x = s.x := by
  rcases tuneTest_cases s with ⟨_, h⟩ | ⟨_, h⟩ <;> rw [h]

theorem seekTest_x (s : State) : (seekTest s).x = s.x := by
  rcases seekTest_cases s with ⟨_, h⟩ | ⟨_, _, h⟩ | ⟨_, _, h⟩ <;> rw [h] <;> rfl

/-- TuneSeq goes on to its delay or ends with the classification of the status read (R175, R178). -/
theorem tuneTest_pos (s : State) :
    (tuneTest s).pos = .tuneDelay ∨ (tuneTest s).pos = .tuneExit s.pollOutcome := by
  rcases tuneTest_cases s with ⟨_, h⟩ | ⟨_, h⟩
  · exact .inr (by rw [h])
  · exact .inl (by rw [h])

/-- SeekPoll goes on to its delay or ends with the classification of the status read, on STC as on the deadline
(R176, R178). -/
theorem seekTest_pos (s : State) :
    (seekTest s).pos = .seekDelay ∨ (seekTest s).pos = .seekExit s.pollOutcome := by
  rcases seekTest_cases s with ⟨_, h⟩ | ⟨_, _, h⟩ | ⟨_, _, h⟩
  · exact .inr (by rw [h, goto_pos])
  · exact .inr (by rw [h, goto_pos])
  · exact .inl (by rw [h, goto_pos])

/-! ## What depends on the shadow only -/

theorem holdsStream_congr {s t : State} {b : List Byte} (hx : t.x = s.x) (h : holdsStream s b) : holdsStream t b := by
  intro j hj
  rw [← h j hj, State.reg, State.reg, hx]

/-- The classification of a poll is that of bits 14 and 13 of Status (10_state.md R31), in any state with the shadow
the poll read. -/
theorem pollOutcome_eq_classify {s t : State} (hx : t.x = s.x) :
    s.pollOutcome = classify ((t.reg 0xA).getLsbD 14) ((t.reg 0xA).getLsbD 13) := by
  rw [State.pollOutcome, stc_eq, sfbl_eq, State.reg, State.reg, hx]

/-! ## The exit -/

/-- Two steps after the end of its loop, with the trigger-clear write answered `Ok`, a command has completed with the
outcome the loop ended with (R171, R173, R174, R179). -/
def CompletesIn2 (i : Instr) (o : OutcomeCode) (t : State) : Prop :=
  ∃ u v, exec i t = .next u ∧ exec i u = .next v ∧ v.pos = .idle ∧ v.outcome = o

section
variable {t : State} {o : OutcomeCode}

theorem seekExit_completes (mode up : BitVec 1) (hpos : t.pos = .seekExit o) (hw : t.env.peekWrite = .ok) :
    CompletesIn2 (.seek mode up) o t := by
  have hwrite : seekExitStep o t = goto (.exitDone o) (afterWrite (t.setField Field.seek 0)) := writeCfg_ok _ hw
  exact ⟨_, _, exec_seek_seekExit hpos, exec_seek_exitDone (by rw [hwrite, goto_pos]), rfl, rfl⟩

theorem tuneExit_completes {i : Instr} (hi : i = .tune ∨ i = .powerUp) (hpos : t.pos = .tuneExit o)
    (hw : t.env.peekWrite = .ok) : CompletesIn2 i o t := by
  have hwrite : tuneExitStep o t = goto (.exitDone o) (afterWrite (t.setField Field.tune 0)) := writeCfg_ok _ hw
  exact ⟨_, _, exec_tuneExit hi hpos, exec_tune_exitDone hi (by rw [hwrite, goto_pos]), rfl, rfl⟩

end

/-- Settles O39: the exit tests keep the shadow the poll read and put the classification of its status into the exit
position, which carries it to the completion. -/
theorem pollOutcomesAreClassified : Obligations.PollOutcomesAreClassified := by
  refine ⟨rfl, rfl, rfl, rfl, rfl, rfl, rfl, fun i s b hread hlen hloop => ?_⟩
  rcases hloop with ⟨⟨mode, up, rfl⟩, hpos⟩ | ⟨hi, hpos⟩
  · have hx := seekTest_x (afterRead b s)
    have hpoll : exec (.seek mode up) s = .next (seekTest (afterRead b s)) := by
      rw [exec_seek_seekPoll hpos, seekPollStep, readAll_ok _ hread hlen]
    refine ⟨_, hpoll, holdsStream_congr hx (holdsStream_afterRead b s), ?_⟩
    rw [← pollOutcome_eq_classify hx]
    rcases seekTest_pos (afterRead b s) with hdelay | hexit
    · exact .inl hdelay
    · exact .inr (.inr ⟨.inl hexit, seekExit_completes mode up hexit⟩)
  · have hx := tuneTest_x (afterRead b s)
    have hpoll : exec i s = .next (tuneTest (afterRead b s)) := by
      rw [exec_tunePoll hi hpos, tunePollStep, readAll_ok _ hread hlen]
    refine ⟨_, hpoll, holdsStream_congr hx (holdsStream_afterRead b s), ?_⟩
    rw [← pollOutcome_eq_classify hx]
    rcases tuneTest_pos (afterRead b s) with hdelay | hexit
    · exact .inr (.inl hdelay)
    · exact .inr (.inr ⟨.inr hexit, tuneExit_completes hi hexit⟩)

end Sys2Proof.Machine
end

section
/-! SUPPORT. What a step of a command does with the device (20_memory.md R61, 60_exceptions.md R286), said once for every
command and position: it is one read, one write, or no transaction at all. -/

namespace Sys2Proof.Machine

/-! ## What a transaction does not depend on, and what follows it -/

/-- From `s` to `t` there is no transaction: `shadow_valid`, the bus history, BUSERR and the device's coming answers
stay. -/
structure KeepsDevice (s t : State) : Prop where
  shadowValid : t.shadowValid = s.shadowValid
  bus : t.bus = s.bus
  busErr : t.busErr = s.busErr
  reads : keepsReadAnswers s t
  writes : keepsWriteAnswers s t

/-- What follows a successful transaction in the same step: no second one, no register change and no completion. -/
structure GoesOn (s t : State) : Prop extends KeepsDevice s t where
  x : t.x = s.x
  running : t.pos ≠ .idle

/-- An operation that only goes on with the running command. -/
def Continues (k : State → State) : Prop := ∀ s, GoesOn s (k s)

/-- What may stand before the read in its step: `Now()` answers and the deadline starts taken from them. -/
def SamplesTime (s m : State) : Prop :=
  ∃ t0 tc clock slacks draws, m = { s with
    t0 := t0, tc := tc, env := { s.env with clock := clock, slackScript := slacks, nowDraws := draws } }

/-- `s` with the registers `v` in the shadow. -/
def State.withShadow (s : State) (v : Vector Word 16) : State := { s with x := v }

/-- `s` with `l` as the transport's scripted answers to writes. -/
def State.withWriteAnswers (s : State) (l : List Config.WriteAnswer) : State :=
  { s with env := { s.env with writeScript := l } }

/-- The next step of `i` is one read (R61). -/
def ReadStep (i : Instr) (s : State) : Prop :=
  ∃ m k, SamplesTime s m ∧ Continues k ∧ exec i s = .next (readAll k m)

/-- The next step of `i` is one write, of registers staged without regard to how the device answers (R61, R63). -/
def WriteStep (i : Instr) (s : State) : Prop :=
  ∃ v k, Continues k ∧
    ∀ l, exec i (s.withWriteAnswers l) = .next (writeCfg k ((s.withShadow v).withWriteAnswers l))

/-- A step without a transaction: a raised error, a step to another position, or a completion with the outcome the
position carries or with OK. -/
inductive QuietStep (s t : State) : Prop where
  | raised (e : ErrCode) (first : s.pos = .start ∨ s.pos = .reject e) (report : t = raise e s)
  | moved (running : t.pos ≠ .idle) (keeps : KeepsDevice s t)
  | completed (carried : s.pos = .finish t.outcome ∨ s.pos = .exitDone t.outcome ∨ t.outcome = .ok)
      (keeps : KeepsDevice s t)

theorem QuietStep.keepsDevice {s t : State} (h : QuietStep s t) : KeepsDevice s t := by
  cases h with
  | raised e _ report => exact report ▸ ⟨rfl, rfl, rfl, ⟨rfl, rfl⟩, ⟨rfl, rfl⟩⟩
  | moved _ keeps | completed _ keeps => exact keeps

theorem samplesTime_self (s : State) : SamplesTime s s := ⟨_, _, _, _, _, rfl⟩

theorem samplesTime_tickNow (s : State) : SamplesTime s s.tickNow := ⟨_, _, _, _, _, rfl⟩

theorem samplesTime_sampleT0 (s : State) : SamplesTime s (sampleT0 s) := ⟨_, _, _, _, _, rfl⟩

theorem samplesTime_sampleTc (s : State) : SamplesTime s (sampleTc s) := ⟨_, _, _, _, _, rfl⟩

theorem SamplesTime.trans {s m n : State} (h : SamplesTime s m) (h' : SamplesTime m n) : SamplesTime s n := by
  obtain ⟨_, _, _, _, _, rfl⟩ := h
  obtain ⟨_, _, _, _, _, rfl⟩ := h'
  exact ⟨_, _, _, _, _, rfl⟩

theorem SamplesTime.peekRead {s m : State} (h : SamplesTime s m) : m.env.peekRead = s.env.peekRead := by
  obtain ⟨_, _, _, _, _, rfl⟩ := h
  rfl

theorem continues_goto (p : SeqPos) (hp : p ≠ .idle := by nofun) : Continues (goto p) :=
  fun _ => ⟨⟨rfl, rfl, rfl, ⟨rfl, rfl⟩, ⟨rfl, rfl⟩⟩, rfl, hp⟩

theorem GoesOn.of_tickNow {s t : State} (h : GoesOn s.tickNow t) : GoesOn s t :=
  ⟨⟨h.shadowValid, h.bus, h.busErr, h.reads, h.writes⟩, h.x, h.running⟩

/-! ## The exit tests of the poll loops -/

theorem continues_tuneTest : Continues tuneTest := fun s => by
  rcases tuneTest_cases s with ⟨_, h⟩ | ⟨_, h⟩ <;>
    exact h ▸ ⟨⟨rfl, rfl, rfl, ⟨rfl, rfl⟩, ⟨rfl, rfl⟩⟩, rfl, nofun⟩

theorem continues_seekTest : Continues seekTest := fun s => by
  rcases seekTest_cases s with ⟨_, h⟩ | ⟨_, _, h⟩ | ⟨_, _, h⟩
  · exact h ▸ (continues_goto _) s
  · exact h ▸ .of_tickNow ((continues_goto _) s.tickNow)
  · exact h ▸ .of_tickNow ((continues_goto _) s.tickNow)

theorem continues_fetchTest {group none : State → State} (hg : Continues group) (hn : Continues none) :
    Continues (fetchTest group none) := fun s => by
  rcases fetchTest_cases group none s with ⟨_, h⟩ | ⟨_, _, h⟩ | ⟨_, _, h⟩
  · exact h ▸ hg s
  · exact h ▸ .of_tickNow (hn s.tickNow)
  · exact h ▸ .of_tickNow ((continues_goto _) s.tickNow)

theorem continues_captureGroup (fen : Bool) (gt : BitVec 4) (gv : GroupVer) :
    Continues (captureGroup fen gt gv) := fun s => by
  rcases captureGroup_cases fen gt gv s with ⟨_, h⟩ | ⟨_, h⟩ <;> exact h ▸ (continues_goto _) s

theorem continues_decodeFetch : Continues (fetchTest decodeNext decodeTimeout) :=
  continues_fetchTest (continues_goto .decodeGroup) (continues_goto (.finish .hwTimeout))

theorem continues_captureFetch (fen : Bool) (gt : BitVec 4) (gv : GroupVer) :
    Continues (fetchTest (captureGroup fen gt gv) captureNone) :=
  continues_fetchTest (continues_captureGroup fen gt gv) (continues_goto .captureTest)

/-! ## The steps that read -/

section
variable {s : State}

/-- A fresh field is read from the device first (41_field_decoder.md R145, R151). -/
theorem exec_fieldGet_fresh {fid : BitVec 6} (hp : s.pos = .start) (hlo : 36 ≤ fid.toNat) (hhi : fid.toNat ≤ 48) :
    exec (.fieldGet fid) s = .next (readAll (goto .fieldRead) s) := by
  simp [exec, execFieldGet, hp, knownFid, freshFid, hlo, hhi]

/-- With time left a capture begins a fetch cycle (43_rds_decoder.md R241). -/
theorem captureTestStep_running (fen : Bool) (gt : BitVec 4) (gv : GroupVer)
    (h : s.nowAnswer < s.tc + s.argCur.toNat * s.env.params.captureUnitMs) :
    captureTestStep fen gt gv s = readAll (fetchTest (captureGroup fen gt gv) captureNone) (sampleT0 s.tickNow) := by
  rw [captureTestStep, deadline, if_neg (Nat.not_le.2 h)]
  rfl

/-- Without time left a capture completes (R241). -/
theorem captureTestStep_expired (fen : Bool) (gt : BitVec 4) (gv : GroupVer)
    (h : ¬ s.nowAnswer < s.tc + s.argCur.toNat * s.env.params.captureUnitMs) :
    captureTestStep fen gt gv s = completeIn .ready .ok s.tickNow := by
  rw [captureTestStep, deadline, if_pos (Nat.not_lt.1 h)]

/-- Each position with a `ReadAll()` in its command's rule makes that read, and what follows in the step goes on. -/
theorem readStep_of_readsNow {i : Instr} (h : readsNow i s) : ReadStep i s := by
  cases i with
  | readAll => exact ⟨s, _, samplesTime_self s, continues_goto (.finish .ok), exec_readAll_start h⟩
  | fieldGet fid =>
    obtain ⟨hp, hlo, hhi⟩ := h
    exact ⟨s, _, samplesTime_self s, continues_goto .fieldRead, exec_fieldGet_fresh hp hlo hhi⟩
  | powerUp =>
    rcases h with hp | hp
    · exact ⟨s, _, samplesTime_self s, continues_goto .xoscWrite, by simp only [exec, execPowerUp, hp]⟩
    · exact ⟨s, _, samplesTime_self s, continues_tuneTest, exec_tunePoll (.inr rfl) hp⟩
  | seek mode up => exact ⟨s, _, samplesTime_self s, continues_seekTest, exec_seek_seekPoll h⟩
  | tune => exact ⟨s, _, samplesTime_self s, continues_tuneTest, exec_tunePoll (.inl rfl) h⟩
  | rdsDecode =>
    rcases h with hp | hp
    · exact ⟨_, _, samplesTime_sampleT0 s, continues_decodeFetch, by simp only [exec, execRdsDecode, hp]; rfl⟩
    · exact ⟨s, _, samplesTime_self s, continues_decodeFetch, by simp only [exec, execRdsDecode, hp]; rfl⟩
  | rdsCapture fen gt gv =>
    have hk := continues_captureFetch fen gt gv
    have hcycle (u : State) : SamplesTime u (sampleT0 u.tickNow) :=
      (samplesTime_tickNow u).trans (samplesTime_sampleT0 u.tickNow)
    rcases h with hp | ⟨hp, hleft⟩ | ⟨hp, hleft⟩
    · exact ⟨s, _, samplesTime_self s, hk, by simp only [exec, execRdsCapture, hp]; rfl⟩
    · exact ⟨_, _, hcycle s, hk, by simp only [exec, execRdsCapture, hp, captureTestStep_running fen gt gv hleft]⟩
    · exact ⟨_, _, (samplesTime_sampleTc s).trans (hcycle (sampleTc s)), hk, by
        simp only [exec, execRdsCapture, hp, captureTestStep_running (s := sampleTc s) fen gt gv hleft]⟩
  | nop | writeCfg | shadowRd | shadowWr | fieldSet | fieldExtract | powerDown | rdsReset | accRd | accRecv | accCur
  | idRd => exact False.elim h

/-! ## The steps that write -/

/-- A step that stages registers with `stage` and writes them is a `WriteStep`: staging does not look at the answers. -/
theorem WriteStep.of_staged {i : Instr} {k : State → State} (stage : State → State) (hk : Continues k)
    (h : ∀ u : State, u.pos = s.pos → u.shadowValid = s.shadowValid → exec i u = .next (writeCfg k (stage u)))
    (hstage : ∀ l, stage (s.withWriteAnswers l) = (s.withShadow (stage s).x).withWriteAnswers l := by
      intro; rfl) : WriteStep i s :=
  ⟨(stage s).x, k, hk, fun l => by rw [h (s.withWriteAnswers l) rfl rfl, hstage]⟩

/-- CHAN and TUNE as TuneSeq stages them before its trigger write (42_tuning_fsm.md R175). -/
def stageTune (f : Word) (s : State) : State :=
  (s.setField Field.chan (BitVec.ofNat 16 (freqToChan f))).setField Field.tune 1

theorem tuneTriggerStep_eq (f : Word) (s : State) :
    tuneTriggerStep f s = writeCfg (fun s => { s with polls := 0, pos := .tunePoll }) (stageTune f s) := rfl

theorem continues_tuneTrigger : Continues fun s => { s with polls := 0, pos := .tunePoll } :=
  fun _ => ⟨⟨rfl, rfl, rfl, ⟨rfl, rfl⟩, ⟨rfl, rfl⟩⟩, rfl, nofun⟩

theorem continues_seekTrigger : Continues fun s => goto .seekPoll (sampleT0 s) :=
  fun _ => ⟨⟨rfl, rfl, rfl, ⟨rfl, rfl⟩, ⟨rfl, rfl⟩⟩, rfl, nofun⟩

/-- Each position with a `WriteCfg()` in its command's rule stages its registers and makes that write. -/
theorem writeStep_of_writesNow {i : Instr} (h : writesNow i s) : WriteStep i s := by
  cases i with
  | writeCfg =>
    obtain ⟨hp, hv⟩ := h
    exact .of_staged id (continues_goto (.finish .ok)) fun u hu huv =>
      exec_writeCfg_start_synced (hu.trans hp) (huv.trans hv)
  | powerUp =>
    rcases h with hp | hp | hp | ⟨o, hp⟩
    · exact .of_staged (·.setField Field.xoscen 1) (continues_goto .xoscDelay) fun u hu _ => by
        simp only [exec, execPowerUp, hu, hp]
    · exact .of_staged stagePowerUp (continues_goto .powerUpDelay) fun u hu _ => by
        simp only [exec, execPowerUp, hu, hp]
    · exact .of_staged (fun u => stageTune u.env.params.defaultFreq u) continues_tuneTrigger fun u hu _ => by
        simp only [exec, execPowerUp, hu, hp, tuneTriggerStep_eq]
    · exact .of_staged (·.setField Field.tune 0) (continues_goto (.exitDone o)) fun u hu _ =>
        exec_tuneExit (.inr rfl) (hu.trans hp)
  | powerDown =>
    exact .of_staged stagePowerDown (continues_goto .powerDownDelay) fun u hu _ => by
      simp only [exec, execPowerDown, hu.trans h]
  | seek mode up =>
    rcases h with hp | ⟨o, hp⟩
    · exact .of_staged (stageSeek mode up) continues_seekTrigger fun u hu _ => by
        simp only [exec, execSeek, hu, hp]
    · exact .of_staged (·.setField Field.seek 0) (continues_goto (.exitDone o)) fun u hu _ =>
        exec_seek_seekExit (hu.trans hp)
  | tune =>
    rcases h with hp | ⟨o, hp⟩
    · exact .of_staged (fun u => stageTune u.argCur u) continues_tuneTrigger fun u hu _ => by
        simp only [exec, execTune, hu, hp, tuneTriggerStep_eq]
    · exact .of_staged (·.setField Field.tune 0) (continues_goto (.exitDone o)) fun u hu _ =>
        exec_tuneExit (.inl rfl) (hu.trans hp)
  | nop | readAll | shadowRd | shadowWr | fieldGet | fieldSet | fieldExtract | rdsDecode | rdsCapture | rdsReset | accRd
  | accRecv | accCur | idRd => exact False.elim h

end

/-! ## The steps without a transaction -/

section
variable {s t : State}

theorem keepsDevice_completeWith (v : Word) (s : State) : KeepsDevice s (completeWith v s) :=
  ⟨rfl, rfl, rfl, ⟨rfl, rfl⟩, ⟨rfl, rfl⟩⟩

theorem keepsDevice_completeIn (st : SeqState) (o : OutcomeCode) (s : State) : KeepsDevice s (completeIn st o s) :=
  ⟨rfl, rfl, rfl, ⟨rfl, rfl⟩, ⟨rfl, rfl⟩⟩

theorem keepsDevice_accept (w : Word) (s : State) : KeepsDevice s (accept w s) := by
  rcases accept_cases w s with ⟨_, _, h⟩ | ⟨_, _, h⟩ <;> exact h ▸ ⟨rfl, rfl, rfl, ⟨rfl, rfl⟩, ⟨rfl, rfl⟩⟩

theorem accept_pos_ne_idle (w : Word) (s : State) : (accept w s).pos ≠ .idle := by
  rcases accept_cases w s with ⟨_, _, h⟩ | ⟨_, _, h⟩ <;> rw [h] <;> nofun

theorem quietStep_completeWith (v : Word) (s : State) : QuietStep s (completeWith v s) :=
  .completed (.inr (.inr rfl)) (keepsDevice_completeWith v s)

/-- A command that completes with OK may change what is none of the device's before it does. -/
theorem KeepsDevice.quietStep_complete_ok (h : KeepsDevice s t) : QuietStep s (complete .ok t) :=
  .completed (.inr (.inr rfl)) ⟨h.shadowValid, h.bus, h.busErr, h.reads, h.writes⟩

theorem quietStep_finish {o : OutcomeCode} (hp : s.pos = .finish o) : QuietStep s (complete o s) :=
  .completed (.inl hp) ⟨rfl, rfl, rfl, ⟨rfl, rfl⟩, ⟨rfl, rfl⟩⟩

theorem quietStep_finishIn {o : OutcomeCode} (st : SeqState) (hp : s.pos = .finish o) :
    QuietStep s (completeIn st o s) :=
  .completed (.inl hp) (keepsDevice_completeIn st o s)

theorem quietStep_exitDone {o : OutcomeCode} (hp : s.pos = .exitDone o) : QuietStep s (exitDoneStep o s) :=
  .completed (.inr (.inl hp)) ⟨rfl, rfl, rfl, ⟨rfl, rfl⟩, ⟨rfl, rfl⟩⟩

theorem quietStep_delay (d : Nat) (p : SeqPos) (s : State) (hp : p ≠ .idle := by nofun) :
    QuietStep s (goto p (delay d s)) :=
  .moved hp ⟨rfl, rfl, rfl, ⟨rfl, rfl⟩, ⟨rfl, rfl⟩⟩

theorem quietStep_decode (s : State) : QuietStep s (goto (.finish .ok) (decodeStep s)) := by
  obtain ⟨acc, es, _, h⟩ := decodeBlocks_shape (s.reg 0xC) (s.reg 0xD) (s.reg 0xE) (s.reg 0xF) s
  rw [decodeStep, h]
  exact .moved nofun ⟨rfl, rfl, rfl, ⟨rfl, rfl⟩, ⟨rfl, rfl⟩⟩

theorem quietStep_captureEmit (s : State) : QuietStep s (captureEmitStep s) :=
  .moved nofun ⟨rfl, rfl, rfl, ⟨rfl, rfl⟩, ⟨rfl, rfl⟩⟩

/-- A check of a command's first step raises its error or lets the step go on (60_exceptions.md R282, R283). -/
theorem quietStep_check {c : Prop} [Decidable c] (e : ErrCode) {u : State} (hp : s.pos = .start)
    (hu : QuietStep s u) : QuietStep s (if c then raise e s else u) := by
  split
  · exact .raised e (.inl hp) rfl
  · exact hu

theorem offSequence_quiet {i : Instr} (h : offSequence i s = .next t) : QuietStep s t := by
  rcases offSequence_cases h with ⟨_, rfl⟩ | ⟨e, hp, rfl⟩
  · exact .moved (accept_pos_ne_idle _ s) (keepsDevice_accept _ s)
  · exact .raised e (.inr hp) rfl

theorem execReadAll_quiet (hr : ¬ readsNow .readAll s) (h : execReadAll s = .next t) : QuietStep s t := by
  unfold execReadAll at h
  split at h
  case h_3 => exact offSequence_quiet h
  all_goals obtain rfl := Host.Outcome.next.inj h
  case h_1 hp => exact absurd hp hr
  case h_2 hp => exact quietStep_finish hp

theorem execWriteCfg_quiet (hw : ¬ writesNow .writeCfg s) (h : execWriteCfg s = .next t) : QuietStep s t := by
  unfold execWriteCfg at h
  split at h
  case h_3 => exact offSequence_quiet h
  all_goals obtain rfl := Host.Outcome.next.inj h
  case h_1 hp =>
    split
    · next hv => exact absurd ⟨hp, hv⟩ hw
    · exact .raised .notSynced (.inl hp) rfl
  case h_2 hp => exact quietStep_finish hp

theorem execFieldGet_quiet {fid : BitVec 6} (hr : ¬ readsNow (.fieldGet fid) s) (h : execFieldGet fid s = .next t) :
    QuietStep s t := by
  unfold execFieldGet at h
  split at h
  case h_3 => exact offSequence_quiet h
  all_goals obtain rfl := Host.Outcome.next.inj h
  case h_1 hp =>
    split_ifs with _ hfresh
    · exact .raised .badIndex (.inl hp) rfl
    · exact absurd ⟨hp, of_decide_eq_true hfresh⟩ hr
    · exact .raised .notSynced (.inl hp) rfl
    · exact quietStep_completeWith _ s
  case h_2 => exact quietStep_completeWith _ s

theorem execPowerUp_quiet (hr : ¬ readsNow .powerUp s) (hw : ¬ writesNow .powerUp s) (h : execPowerUp s = .next t) :
    QuietStep s t := by
  unfold execPowerUp at h
  split at h
  case h_11 => exact offSequence_quiet h
  all_goals obtain rfl := Host.Outcome.next.inj h
  case h_1 hp => exact absurd (.inl hp) hr
  case h_2 hp => exact absurd (.inl hp) hw
  case h_3 => exact quietStep_delay _ .configWrite s
  case h_4 hp => exact absurd (.inr (.inl hp)) hw
  case h_5 => exact quietStep_delay _ .tuneTrigger s
  case h_6 hp => exact absurd (.inr (.inr (.inl hp))) hw
  case h_7 hp => exact absurd (.inr hp) hr
  case h_8 => exact quietStep_delay _ .tunePoll s
  case h_9 o hp => exact absurd (.inr (.inr (.inr ⟨o, hp⟩))) hw
  case h_10 hp => exact quietStep_exitDone hp

theorem execPowerDown_quiet (hw : ¬ writesNow .powerDown s) (h : execPowerDown s = .next t) : QuietStep s t := by
  unfold execPowerDown at h
  split at h
  case h_4 => exact offSequence_quiet h
  all_goals obtain rfl := Host.Outcome.next.inj h
  case h_1 hp => exact absurd hp hw
  case h_2 => exact quietStep_delay _ (.finish .ok) s
  case h_3 hp => exact quietStep_finishIn .poweredDown hp

theorem execSeek_quiet {mode up : BitVec 1} (hr : ¬ readsNow (.seek mode up) s) (hw : ¬ writesNow (.seek mode up) s)
    (h : execSeek mode up s = .next t) : QuietStep s t := by
  unfold execSeek at h
  split at h
  case h_6 => exact offSequence_quiet h
  all_goals obtain rfl := Host.Outcome.next.inj h
  case h_1 hp => exact absurd (.inl hp) hw
  case h_2 hp => exact absurd hp hr
  case h_3 => exact quietStep_delay _ .seekPoll s
  case h_4 o hp => exact absurd (.inr ⟨o, hp⟩) hw
  case h_5 hp => exact quietStep_exitDone hp

theorem execTune_quiet (hr : ¬ readsNow .tune s) (hw : ¬ writesNow .tune s) (h : execTune s = .next t) :
    QuietStep s t := by
  unfold execTune at h
  split at h
  case h_6 => exact offSequence_quiet h
  all_goals obtain rfl := Host.Outcome.next.inj h
  case h_1 hp => exact absurd (.inl hp) hw
  case h_2 hp => exact absurd hp hr
  case h_3 => exact quietStep_delay _ .tunePoll s
  case h_4 o hp => exact absurd (.inr ⟨o, hp⟩) hw
  case h_5 hp => exact quietStep_exitDone hp

theorem execRdsDecode_quiet (hr : ¬ readsNow .rdsDecode s) (h : execRdsDecode s = .next t) : QuietStep s t := by
  unfold execRdsDecode at h
  split at h
  case h_6 => exact offSequence_quiet h
  all_goals obtain rfl := Host.Outcome.next.inj h
  case h_1 hp => exact absurd (.inl hp) hr
  case h_2 hp => exact absurd (.inr hp) hr
  case h_3 => exact quietStep_delay _ .fetchPoll s
  case h_4 => exact quietStep_decode s
  case h_5 hp => exact quietStep_finishIn .ready hp

/-- A capture that makes no read at its deadline test completes there (43_rds_decoder.md R241). -/
theorem execRdsCapture_quiet {fen : Bool} {gt : BitVec 4} {gv : GroupVer} (hr : ¬ readsNow (.rdsCapture fen gt gv) s)
    (h : execRdsCapture fen gt gv s = .next t) : QuietStep s t := by
  unfold execRdsCapture at h
  split at h
  case h_7 => exact offSequence_quiet h
  all_goals obtain rfl := Host.Outcome.next.inj h
  case h_1 hp =>
    rw [captureTestStep_expired (s := sampleTc s) fen gt gv fun hleft => hr (.inr (.inr ⟨hp, hleft⟩))]
    exact .completed (.inr (.inr rfl)) ⟨rfl, rfl, rfl, ⟨rfl, rfl⟩, ⟨rfl, rfl⟩⟩
  case h_2 hp =>
    rw [captureTestStep_expired fen gt gv fun hleft => hr (.inr (.inl ⟨hp, hleft⟩))]
    exact .completed (.inr (.inr rfl)) ⟨rfl, rfl, rfl, ⟨rfl, rfl⟩, ⟨rfl, rfl⟩⟩
  case h_3 hp => exact absurd (.inl hp) hr
  case h_4 => exact quietStep_delay _ .fetchPoll s
  case h_5 => exact quietStep_captureEmit s
  case h_6 => exact quietStep_delay _ .captureTest s

/-- Where a command neither reads nor writes the device, its step is a `QuietStep`. -/
theorem exec_quiet {i : Instr} (hr : ¬ readsNow i s) (hw : ¬ writesNow i s) (h : exec i s = .next t) :
    QuietStep s t := by
  cases i
  case powerUp => exact execPowerUp_quiet hr hw h
  case powerDown => exact execPowerDown_quiet hw h
  case seek => exact execSeek_quiet hr hw h
  case tune => exact execTune_quiet hr hw h
  case rdsDecode => exact execRdsDecode_quiet hr h
  case rdsCapture => exact execRdsCapture_quiet hr h
  case readAll => exact execReadAll_quiet hr h
  case writeCfg => exact execWriteCfg_quiet hw h
  case fieldGet => exact execFieldGet_quiet hr h
  -- the commands of one step: first those without checks of their own, then those with
  case accRecv | accCur | idRd =>
    simp only [exec, execAccRecv, execAccCur, execIdRd] at h
    split at h
    · obtain rfl := Host.Outcome.next.inj h
      exact quietStep_completeWith _ s
    · exact offSequence_quiet h
  case nop | rdsReset =>
    simp only [exec, execNop, execRdsReset] at h
    split at h
    · obtain rfl := Host.Outcome.next.inj h
      exact KeepsDevice.quietStep_complete_ok ⟨rfl, rfl, rfl, ⟨rfl, rfl⟩, ⟨rfl, rfl⟩⟩
    · exact offSequence_quiet h
  case fieldExtract | accRd =>
    simp only [exec, execFieldExtract, execAccRd] at h
    split at h
    case h_1 hp =>
      obtain rfl := Host.Outcome.next.inj h
      exact quietStep_check .badIndex hp (quietStep_completeWith _ s)
    · exact offSequence_quiet h
  case shadowRd =>
    simp only [exec, execShadowRd] at h
    split at h
    case h_1 hp =>
      obtain rfl := Host.Outcome.next.inj h
      split
      · exact quietStep_completeWith _ s
      · exact .raised .notSynced (.inl hp) rfl
    · exact offSequence_quiet h
  case shadowWr =>
    simp only [exec, execShadowWr] at h
    split at h
    case h_1 hp =>
      obtain rfl := Host.Outcome.next.inj h
      exact quietStep_check .badIndex hp (quietStep_check .notSynced hp
        (KeepsDevice.quietStep_complete_ok ⟨rfl, rfl, rfl, ⟨rfl, rfl⟩, ⟨rfl, rfl⟩⟩))
    · exact offSequence_quiet h
  case fieldSet =>
    simp only [exec, execFieldSet] at h
    split at h
    case h_1 hp =>
      obtain rfl := Host.Outcome.next.inj h
      exact quietStep_check .badIndex hp (quietStep_check .badValue hp (quietStep_check .notSynced hp
        (KeepsDevice.quietStep_complete_ok ⟨rfl, rfl, rfl, ⟨rfl, rfl⟩, ⟨rfl, rfl⟩⟩)))
    · exact offSequence_quiet h

end

end Sys2Proof.Machine
end

section
/-! SUPPORT. Errors and HALTED (60_exceptions.md R282, R286, R287): what a transaction leaves when it succeeds and when
it fails, which outcomes a completion can carry, and the steps of a halted block. -/

namespace Sys2Proof.Machine

/-! ## One transaction -/

theorem payload_eq_none {a : Config.ReadAnswer} (h : ∀ b, a = .bytes b → b.length ≠ 32) : payload a = none := by
  rw [Option.eq_none_iff_forall_ne_some]
  intro b hb
  obtain ⟨rfl, hlen⟩ := payload_eq_some.1 hb
  exact h b rfl hlen

theorem configBytes_congr {s t : State} (hx : t.x = s.x) : configBytes t = configBytes s := by
  simp only [configBytes, State.reg, hx]

section
variable {s t : State} {i : Instr}

theorem ReadStep.of_bytes {b : List Byte} (h : ReadStep i s) (hread : s.env.peekRead = .bytes b)
    (hlen : b.length = 32) :
    ∃ t, exec i s = .next t ∧ readBytes s t b ∧ holdsStream t b ∧ t.shadowValid = true ∧ t.busErr = s.busErr ∧
      tookReadAnswer s t := by
  obtain ⟨m, k, htime, hk, hexec⟩ := h
  rw [readAll_ok k (htime.peekRead.trans hread) hlen] at hexec
  have hgo := hk (afterRead b m)
  obtain ⟨_, _, _, _, _, rfl⟩ := htime
  exact ⟨_, hexec, hgo.bus, holdsStream_congr hgo.x (holdsStream_afterRead b _), hgo.shadowValid, hgo.busErr,
    hgo.reads.1, hgo.reads.2, hgo.writes⟩

theorem ReadStep.of_failure (h : ReadStep i s) (hread : ∀ b, s.env.peekRead = .bytes b → b.length ≠ 32) :
    ∃ t, exec i s = .next t ∧ t.x = s.x ∧ haltedOn s t ∧
      t.bus = s.bus ++ [.rd s.env.params.devAddr s.env.params.readCmd 32 .busError] ∧ tookReadAnswer s t := by
  obtain ⟨m, k, htime, _, hexec⟩ := h
  rw [readAll_fail k (payload_eq_none (htime.peekRead ▸ hread))] at hexec
  obtain ⟨_, _, _, _, _, rfl⟩ := htime
  exact ⟨_, hexec, rfl, ⟨rfl, rfl, rfl, rfl, rfl, rfl, rfl, rfl, rfl, rfl, rfl⟩, rfl, rfl, rfl, rfl, rfl⟩

theorem WriteStep.of_ok (h : WriteStep i s) (hwrite : s.env.peekWrite = .ok) :
    ∃ t, exec i s = .next t ∧ wroteConfig s t ∧ t.shadowValid = s.shadowValid ∧ t.busErr = s.busErr ∧
      tookWriteAnswer s t := by
  obtain ⟨v, k, hk, hexec⟩ := h
  have hok : exec i s = .next (k (afterWrite (s.withShadow v))) := by
    rw [← writeCfg_ok (s := s.withShadow v) k hwrite]
    exact hexec s.env.writeScript
  have hgo := hk (afterWrite (s.withShadow v))
  have hsent : wroteConfig s (k (afterWrite (s.withShadow v))) := by
    rw [wroteConfig, configBytes_congr hgo.x, hgo.bus]
    exact wroteConfig_afterWrite (s.withShadow v)
  exact ⟨_, hok, hsent, hgo.shadowValid, hgo.busErr, hgo.writes.1, hgo.writes.2, hgo.reads⟩

/-- A failed write has staged the same registers as the write that succeeds, so it sent them too (R286). -/
theorem WriteStep.of_failure (h : WriteStep i s) (hwrite : s.env.peekWrite = .busError) :
    ∃ t, exec i s = .next t ∧ haltedOn s t ∧
      t.bus = s.bus ++ [.wr s.env.params.devAddr (configBytes t) .busError] ∧ tookWriteAnswer s t ∧
      ∃ u, exec i { s with env := { s.env with writeScript := [.ok] } } = .next u ∧ t.x = u.x := by
  obtain ⟨v, k, hk, hexec⟩ := h
  have hfail : exec i s = .next (failedWrite (s.withShadow v)) := by
    rw [← writeCfg_fail (s := s.withShadow v) k hwrite]
    exact hexec s.env.writeScript
  have hok := hexec [.ok]
  rw [writeCfg_ok k rfl] at hok
  exact ⟨_, hfail, ⟨rfl, rfl, rfl, rfl, rfl, rfl, rfl, rfl, rfl, rfl, rfl⟩, rfl, ⟨rfl, rfl, rfl, rfl⟩, _, hok,
    (hk (afterWrite ((s.withShadow v).withWriteAnswers [.ok]))).x.symm⟩

/-- Settles O19: each position is a read, a write or neither, and a transaction succeeds or fails. -/
theorem failedTransactionsHalt : Obligations.FailedTransactionsHalt := by
  intro i s
  refine ⟨fun hnow => ?_, fun hnow => ?_, fun hr hw t h => ?_⟩
  · have hstep := readStep_of_readsNow hnow
    exact ⟨fun b hread hlen => hstep.of_bytes hread hlen, hstep.of_failure⟩
  · have hstep := writeStep_of_writesNow hnow
    exact ⟨hstep.of_ok, hstep.of_failure⟩
  · have hkeeps := (exec_quiet hr hw h).keepsDevice
    exact ⟨hkeeps.bus, hkeeps.busErr, hkeeps.reads, hkeeps.writes⟩

/-! ## Completions with an error -/

/-- A step with a transaction completes only by failing (R286). -/
theorem ReadStep.outcome_of_idle (h : ReadStep i s) (hexec : exec i s = .next t) (hidle : t.pos = .idle) :
    t.outcome = .err .bus := by
  obtain ⟨m, k, _, hk, hread⟩ := h
  obtain rfl := Host.Outcome.next.inj (hread.symm.trans hexec)
  rcases readAll_cases k m with ⟨b, _, _, hr⟩ | ⟨_, hr⟩ <;> rw [hr] at hidle ⊢
  · exact absurd hidle (hk _).running
  · rfl

theorem WriteStep.outcome_of_idle (h : WriteStep i s) (hexec : exec i s = .next t) (hidle : t.pos = .idle) :
    t.outcome = .err .bus := by
  obtain ⟨v, k, hk, hwrite⟩ := h
  obtain rfl := Host.Outcome.next.inj ((hwrite s.env.writeScript).symm.trans hexec)
  rcases writeCfg_cases k (s.withShadow v) with ⟨_, hr⟩ | ⟨_, hr⟩
  · exact absurd (hr ▸ hidle) (hk _).running
  · exact hr ▸ rfl

theorem isPollOutcome_of_finish {o : OutcomeCode} (h : ownPosition i (.finish o) = true) : isPollOutcome o = true := by
  have ho : o = .ok ∨ o = .hwTimeout := by cases i <;> simp_all [ownPosition, tuneSeqPosition]
  rcases ho with rfl | rfl <;> rfl

theorem isPollOutcome_of_exitDone {o : OutcomeCode} (h : ownPosition i (.exitDone o) = true) :
    isPollOutcome o = true := by
  cases i
  case powerUp | seek | tune => simpa [ownPosition, tuneSeqPosition] using h
  all_goals simp [ownPosition] at h

theorem sequenceOk_of_consistent (hs : s.consistent = true) : s.sequenceOk = true := by
  simp only [State.consistent, Bool.and_eq_true] at hs
  obtain ⟨⟨⟨⟨hseq, _⟩, _⟩, _⟩, _⟩ := hs
  exact hseq

/-- In a sound state no position carries an error to a completion (42_tuning_fsm.md R178). -/
theorem isPollOutcome_of_consistent {o : OutcomeCode} (hs : s.consistent = true) (hd : decode s.cwCur = .command i)
    (hp : s.pos = .finish o ∨ s.pos = .exitDone o) : isPollOutcome o = true := by
  have hseq := sequenceOk_of_consistent hs
  rcases hp with hp | hp
  · exact isPollOutcome_of_finish (i := i) (by simp_all [State.sequenceOk])
  · exact isPollOutcome_of_exitDone (i := i) (by simp_all [State.sequenceOk])

/-- Settles O14: a transaction completes only with E_BUS, and of the steps without one only a raised error completes with
an error. -/
theorem errorCompletionsChangeOnlyTheReport : Obligations.ErrorCompletionsChangeOnlyTheReport := by
  intro i s t e hs _ hd hexec hidle herr hbus
  have hnot : t.outcome ≠ .err .bus := fun h => hbus (OutcomeCode.err.inj (herr.symm.trans h))
  have hr : ¬ readsNow i s := fun h => hnot ((readStep_of_readsNow h).outcome_of_idle hexec hidle)
  have hw : ¬ writesNow i s := fun h => hnot ((writeStep_of_writesNow h).outcome_of_idle hexec hidle)
  cases exec_quiet hr hw hexec with
  | raised c first report =>
    subst report
    obtain rfl : c = e := OutcomeCode.err.inj herr
    exact ⟨reports_raise c s, first⟩
  | moved running _ => exact absurd hidle running
  | completed carried _ =>
    rw [herr] at carried
    rcases carried with hp | hp | hok
    · exact absurd (isPollOutcome_of_consistent hs hd (.inl hp)) nofun
    · exact absurd (isPollOutcome_of_consistent hs hd (.inr hp)) nofun
    · cases hok

end

/-! ## HALTED -/

section
variable {s t : State}

/-- Check (1) of R283 stands before all others. -/
theorem check_halted (w : Word) : check w .halted = .error .illegalState := by simp [check]

theorem accept_halted (w : Word) (hs : s.seqState = .halted) :
    accept w s = { s with cwCur := w, argCur := s.arg, pos := .reject .illegalState } := by
  rw [accept, hs, check_halted]

/-- `s` is HALTED with BUSERR set. -/
def State.Halted (s : State) : Prop := s.seqState = .halted ∧ s.busErr = true

theorem halted_of_consistent (hs : s.consistent = true) (hh : s.seqState = .halted) : s.Halted := by
  simp only [State.consistent, Bool.and_eq_true] at hs
  obtain ⟨⟨⟨⟨_, _⟩, hhalt⟩, _⟩, _⟩ := hs
  exact ⟨hh, (of_decide_eq_true hhalt).2 hh⟩

/-- A command whose word passes the checks runs in no halted block, so a turn idles or reports an error. -/
theorem blockStep_keeps_halted (hseq : s.sequenceOk = true) (hs : s.Halted) (h : blockStep s = .next t) : t.Halted := by
  rcases blockStep_cases h with ⟨_, rfl⟩ | ⟨e, _, rfl⟩ | ⟨i, hd, hp, hr, _⟩
  · exact hs
  · exact hs
  · have hrun := runsIn_of_sequenceOk hseq hp hr hd
    rw [hs.1, runsIn_halted] at hrun
    cases hrun

theorem hostWrite_keeps_halted (off : BitVec 3) (v : Word) (hs : s.Halted) : (hostWrite off v s).Halted := by
  unfold hostWrite writeCmd
  split
  · split
    · exact hs
    · rw [accept_halted v hs.1]
      exact hs
  · exact hs
  · exact hs

/-- No step boundary but `rst` ends HALTED (R287). -/
theorem step_keeps_halted (hseq : s.sequenceOk = true) (hs : s.Halted) (hrst : s.env.agenda.head? ≠ some .rst)
    (h : step s = .next t) : t.Halted := by
  unfold step at h
  split at h
  · exact blockStep_keeps_halted hseq hs h
  · next a l ha =>
    cases a with
    | turn => exact blockStep_keeps_halted (s := popAgenda s) hseq hs h
    | write off v =>
      obtain rfl := Host.Outcome.next.inj h
      exact hostWrite_keeps_halted (s := popAgenda s) off v hs
    | read off =>
      obtain rfl := Host.Outcome.next.inj h
      exact hs
    | rst => exact absurd (by rw [ha]; rfl) hrst

theorem step_of_cons {a : HostAct} {l : List HostAct} (h : s.env.agenda = a :: l) :
    step s = actStep a { s with env := { s.env with agenda := l } } := by
  simp only [step, h, popAgenda, List.tail_cons]

theorem blockStep_of_idle (h : s.pos = .idle) : blockStep s = .next s := by
  simp [blockStep, State.busy, h]

/-- A pending error is reported whether or not the word names a command (R282). -/
theorem blockStep_of_reject {e : ErrCode} (h : s.pos = .reject e) : blockStep s = .next (raise e s) := by
  have hb : s.busy = true := by simp [State.busy, h]
  rw [blockStep, if_pos hb]
  cases decode s.cwCur with
  | command i => exact exec_of_reject i h
  | rejected d => simp only [h]

theorem pos_eq_idle_of_not_busy (h : s.busy = false) : s.pos = .idle := by
  simpa [State.busy] using h

/-- In HALTED every word is accepted with E_ILLEGAL_STATE pending (R283 (1), R287). -/
theorem step_writeCmd_halted {w : Word} {l : List HostAct} (hh : s.seqState = .halted) (hb : s.busy = false)
    (h : s.env.agenda = .write 0 w :: l) :
    step s = .next { s with cwCur := w, argCur := s.arg, pos := .reject .illegalState,
                            env := { s.env with agenda := l } } := by
  have hidle : ¬ State.busy { s with env := { s.env with agenda := l } } = true := fun hbusy =>
    absurd (hb.symm.trans hbusy) nofun
  rw [step_of_cons h]
  show Host.Outcome.next (writeCmd w _) = _
  rw [writeCmd, if_neg hidle]
  exact congrArg _ (accept_halted w hh)

/-- Settles O15: acceptance in HALTED leaves E_ILLEGAL_STATE pending, whatever the word, and a turn only reports it. -/
theorem haltedIsLeftOnlyByRst : Obligations.HaltedIsLeftOnlyByRst := by
  intro s hs hh
  have hhalted := halted_of_consistent hs hh
  have hseq := sequenceOk_of_consistent hs
  refine ⟨hhalted.2, fun t hrst h => step_keeps_halted hseq hhalted hrst h, fun r hr => ?_, fun hb w hw => ?_,
    fun hb ha => ?_⟩
  · exact ⟨_, step_of_cons hr, rfl, rfl⟩
  · refine ⟨_, _, step_writeCmd_halted hh hb hw, blockStep_of_reject rfl, ?_⟩
    rw [pos_eq_idle_of_not_busy hb]
    rfl
  · rw [step, ha]
    exact blockStep_of_idle (pos_eq_idle_of_not_busy hb)

end

end Sys2Proof.Machine
end

section
/-! SUPPORT. The block reset (70_reset_and_hazards.md R310): what the accessors read of cleared accumulators (10_state.md
R42, 43_rds_decoder.md R230), and what the host port reads after `rst`. -/

namespace Sys2Proof.Machine

/-! ## Cleared accumulators -/

@[simp] theorem TextBuf.slotAt_empty (w segs k : Nat) : (TextBuf.empty w segs).slotAt k = Slot.sentinel := by
  rw [TextBuf.slotAt, TextBuf.empty, Vector.getD, Vector.toArray_replicate, Array.getD_eq_getD_getElem?,
    Array.getElem?_replicate]
  split <;> rfl

@[simp] theorem TextBuf.recv_empty (w segs : Nat) : (TextBuf.empty w segs).recv = 0 := rfl

@[simp] theorem Accum.buf_empty (w segs : Nat) (f : BufId) : (Accum.empty w segs).buf f = TextBuf.empty w segs := by
  cases f <;> rfl

section
variable {s : State}

theorem slotOf_of_acc_empty (h : s.acc = .empty) (acc : AccId) (buf : BufId) (k : Nat) :
    s.slotOf acc buf k = Slot.sentinel := by
  cases acc <;> simp [State.slotOf, h, AccFile.empty]

theorem recvOf_of_acc_empty (h : s.acc = .empty) (acc : AccId) (buf : BufId) : s.recvOf acc buf = 0 := by
  cases acc <;> simp [State.recvOf, h, AccFile.empty]

theorem curFlagOf_of_acc_empty (h : s.acc = .empty) (acc : AccId) : s.curFlagOf acc = .a := by
  cases acc <;> simp [State.curFlagOf, h, AccFile.empty, Accum.empty]

end

/-! ## The state after `rst` -/

@[simp] theorem applyRst_acc (s : State) : (applyRst s).acc = .empty := rfl

@[simp] theorem applyRst_reg (s : State) (i : BitVec 4) : (applyRst s).reg i = 0 := by
  simp [State.reg, applyRst, State.reset]

/-- BUSY is 0 too: `rst` leaves no command running. -/
@[simp] theorem applyRst_stat (s : State) : (applyRst s).stat = 0 := by
  simp [applyRst, State.reset, State.stat, State.busy, SeqState.code, OutcomeCode.code]

/-- Offset 3 reads STAT, which is assembled; the other offsets read a cleared register or are constant (D2). -/
@[simp] theorem hostRead_applyRst (off : BitVec 3) (s : State) : hostRead off (applyRst s) = 0 := by
  unfold hostRead
  split
  case h_4 => exact applyRst_stat s
  all_goals rfl

/-- Settles O5: the step is `applyRst`, whose fields are those of `State.reset`; the registers, STAT, the host port and
the accumulators are read through their accessors. -/
theorem rstSetsEveryStatedValue : Obligations.RstSetsEveryStatedValue := by
  intro s r hr
  refine ⟨applyRst { s with env := { s.env with agenda := r } }, step_of_cons hr, applyRst_reg _, rfl, rfl,
    applyRst_stat _, rfl, rfl, rfl, rfl, rfl, rfl, rfl, rfl, fun off => hostRead_applyRst off _, ?slots, ?markers, ?flags,
    rfl, rfl, rfl, rfl⟩
  case slots => exact slotOf_of_acc_empty (applyRst_acc _)
  case markers => exact recvOf_of_acc_empty (applyRst_acc _)
  case flags => exact curFlagOf_of_acc_empty (applyRst_acc _)

end Sys2Proof.Machine
end

section
/-! SUPPORT. Encoding (30_encoding.md R90 to R97): the opcode map by opcode number, the decoder's answer for a word, and the
two directions of the round trip between command words and commands. -/

namespace Sys2Proof.Machine

/-! ## The opcode map -/

/-- The reserved bits of the format of opcode `op` (R91). -/
def reservedBitsOf (op : BitVec 5) : Word := reservedOf.getD op.toNat 0

/-- The row of an assigned opcode checks the opcode bits and the reserved bits of its format, and wants the opcode in the
first and 0 in the second (R91, R93). -/
theorem opTable_row : ∀ op : BitVec 5, op.toNat < 19 →
    reservedOf[op.toNat]? = some (reservedBitsOf op) ∧ reservedBitsOf op &&& 0xF800#16 = 0#16 ∧
      opTable[op.toNat]? = some ⟨0xF800#16 ||| reservedBitsOf op, op.setWidth 16 <<< 11⟩ := by
  decide

/-- From 0x13 on there is no row (R94). -/
theorem opTable_none : ∀ op : BitVec 5, 19 ≤ op.toNat → opTable[op.toNat]? = none := by
  decide

/-- OP sits in the top five bits of the word (R90). -/
theorem and_opcodeMask (w : Word) : w &&& 0xF800#16 = (opcodeOf w).setWidth 16 <<< 11 := by
  apply BitVec.eq_of_getLsbD_eq
  intro k hk
  interval_cases k <;> simp [opcodeOf]

/-- Opcode and reserved bits match together exactly when no reserved bit is set. -/
theorem and_mask_eq_base_iff {w r : Word} (hr : r &&& 0xF800#16 = 0#16) :
    w &&& (0xF800#16 ||| r) = (opcodeOf w).setWidth 16 <<< 11 ↔ w &&& r = 0#16 := by
  rw [← and_opcodeMask]
  constructor
  · intro h
    have hand : (w &&& (0xF800#16 ||| r)) &&& r = w &&& r := by
      apply BitVec.eq_of_getLsbD_eq
      intro k hk
      simp only [BitVec.getLsbD_and, BitVec.getLsbD_or]
      grind
    rw [← hand, h, BitVec.and_assoc, BitVec.and_comm 0xF800#16, hr, BitVec.and_zero]
  · intro h
    rw [show w &&& (0xF800#16 ||| r) = (w &&& 0xF800#16) ||| (w &&& r) from ?_, h, BitVec.or_zero]
    apply BitVec.eq_of_getLsbD_eq
    intro k hk
    simp only [BitVec.getLsbD_and, BitVec.getLsbD_or]
    grind

/-- Every assigned opcode names a command, whatever the operand bits (R93). -/
theorem commandOf_assigned (w : Word) : ∀ op < 19, ∃ i, commandOf op w = .command i := by
  intro op hop
  interval_cases op <;> exact ⟨_, rfl⟩

/-! ## Decoding a word -/

section
variable {w : Word}

/-- Reserved opcodes are rejected as such (R94). -/
theorem decode_reservedOpcode (h : 19 ≤ (opcodeOf w).toNat) : decode w = .rejected .illegalOpcode := by
  rw [decode, opTable_none _ h]

/-- A word of an assigned opcode is a command exactly when the reserved bits of its format are 0 (R95, R97). -/
theorem decode_assignedOpcode (h : (opcodeOf w).toNat < 19) :
    decode w = if w &&& reservedBitsOf (opcodeOf w) = 0#16 then commandOf (opcodeOf w).toNat w
      else .rejected .reservedBits := by
  obtain ⟨_, hdisj, hrow⟩ := opTable_row _ h
  simp only [decode, hrow, and_mask_eq_base_iff hdisj]

end

/-- Settles O3: the row of the opcode decides, and its mask is the opcode bits and the format's reserved bits. -/
theorem wordsAreCommandsOrRejectedByName : Obligations.WordsAreCommandsOrRejectedByName := by
  intro w
  refine ⟨decode_reservedOpcode, fun r hr => ?_⟩
  have hop : (opcodeOf w).toNat < 19 := (List.getElem?_eq_some_iff.1 hr).1
  obtain ⟨hres, _, _⟩ := opTable_row _ hop
  obtain rfl : reservedBitsOf (opcodeOf w) = r := Option.some.inj (hres.symm.trans hr)
  rw [decode_assignedOpcode hop]
  refine ⟨fun h => if_neg h, fun h => ?_⟩
  obtain ⟨i, hi⟩ := commandOf_assigned w _ hop
  exact ⟨i, (if_pos h).trans hi⟩

/-! ## The round trips -/

@[simp] theorem accCode_accOfCode : ∀ c : BitVec 2, accCode (accOfCode c) = c := by decide

@[simp] theorem bufBit_bufOfBit : ∀ b : BitVec 1, bufBit (bufOfBit b) = b := by decide

@[simp] theorem verBit_verOfBit : ∀ b : BitVec 1, verBit (verOfBit b) = b := by decide

@[simp] theorem selBit_selOfBit : ∀ b : BitVec 1, selBit (selOfBit b) = b := by decide

/-- A field of `n` bits from bit `lo` up, put back at its place, is the word cut to the field's mask. -/
theorem extract_shift_eq_and (w : Word) (lo n : Nat) :
    (w.extractLsb' lo n).setWidth 16 <<< lo = w &&& ((BitVec.allOnes n).setWidth 16 <<< lo) := by
  apply BitVec.eq_of_getLsbD_eq
  intro k hk
  by_cases hlo : k < lo
  · simp [hlo]
  · have hplace : lo + (k - lo) = k := by omega
    simp only [BitVec.getLsbD_shiftLeft, BitVec.getLsbD_setWidth, BitVec.getLsbD_extractLsb', BitVec.getLsbD_and,
      BitVec.getLsbD_allOnes, hplace]
    grind

/-- The same for the field from bit 0 up, which needs no shift. -/
theorem extract_eq_and (w : Word) (n : Nat) :
    (w.extractLsb' 0 n).setWidth 16 = w &&& (BitVec.allOnes n).setWidth 16 := by
  simpa using extract_shift_eq_and w 0 n

/-- The one-bit field that FEN is (R91). -/
theorem ofBool_shift_eq_and (w : Word) (lo : Nat) :
    (BitVec.ofBool (w.getLsbD lo)).setWidth 16 <<< lo = w &&& ((BitVec.allOnes 1).setWidth 16 <<< lo) := by
  rw [← extract_shift_eq_and]
  congr 2
  apply BitVec.eq_of_getLsbD_eq
  intro k hk
  obtain rfl : k = 0 := by omega
  simp

/-- The command of a word carries the word's operand bits, and its own word holds them with its opcode and nothing else
(R91, R93). -/
theorem encode_commandOf {w : Word} {i : Instr} : ∀ op < 19, commandOf op w = .command i →
    encode i = (BitVec.ofNat 5 op).setWidth 16 <<< 11 |||
      (w &&& ~~~(0xF800#16 ||| reservedBitsOf (BitVec.ofNat 5 op))) := by
  intro op hop h
  interval_cases op <;> obtain rfl := Decoded.command.inj h <;>
    simp only [encode, BitVec.extractLsb, extract_eq_and, extract_shift_eq_and, ofBool_shift_eq_and, accCode_accOfCode,
      bufBit_bufOfBit, verBit_verOfBit, selBit_selOfBit, BitVec.or_assoc, ← BitVec.and_or_distrib_left] <;>
    simp [reservedBitsOf, reservedOf]

/-- A word without reserved bits is its opcode bits and its operand bits. -/
theorem eq_opcode_or_operands {w : Word} (h : w &&& reservedBitsOf (opcodeOf w) = 0#16) :
    (opcodeOf w).setWidth 16 <<< 11 ||| (w &&& ~~~(0xF800#16 ||| reservedBitsOf (opcodeOf w))) = w := by
  rw [← and_opcodeMask]
  apply BitVec.eq_of_getLsbD_eq
  intro k hk
  have hbit : (w.getLsbD k && (reservedBitsOf (opcodeOf w)).getLsbD k) = false := by
    rw [← BitVec.getLsbD_and, h, BitVec.getLsbD_zero]
  simp only [BitVec.getLsbD_or, BitVec.getLsbD_and, BitVec.getLsbD_not]
  grind

/-- Settles O2: the word is its opcode and operand bits, because its reserved bits are 0, and the command's word is the
same. -/
theorem encodeOfDecodedWordIsTheWord : Obligations.EncodeOfDecodedWordIsTheWord := by
  intro w i h
  have hop : (opcodeOf w).toNat < 19 := by
    by_contra hge
    rw [decode_reservedOpcode (not_lt.1 hge)] at h
    cases h
  rw [decode_assignedOpcode hop] at h
  split at h
  · next hres =>
    have hi := encode_commandOf _ hop h
    rw [BitVec.ofNat_toNat, BitVec.setWidth_eq] at hi
    exact hi.trans (eq_opcode_or_operands hres)
  · cases h

open Laws in
/-- Every command's word lies in the row its opcode selects (R93). -/
theorem encodesInItsRow : ∀ i, EncodesInItsRow.Statement i
  | .nop => EncodesInItsRow.nop
  | .readAll => EncodesInItsRow.readAll
  | .writeCfg => EncodesInItsRow.writeCfg
  | .shadowRd idx => EncodesInItsRow.shadowRd idx
  | .shadowWr idx => EncodesInItsRow.shadowWr idx
  | .fieldGet fid => EncodesInItsRow.fieldGet fid
  | .fieldSet fid => EncodesInItsRow.fieldSet fid
  | .fieldExtract fid => EncodesInItsRow.fieldExtract fid
  | .powerUp => EncodesInItsRow.powerUp
  | .powerDown => EncodesInItsRow.powerDown
  | .seek mode up => EncodesInItsRow.seek mode up
  | .tune => EncodesInItsRow.tune
  | .rdsDecode => EncodesInItsRow.rdsDecode
  | .rdsCapture fen gt gv => EncodesInItsRow.rdsCapture fen gt gv
  | .rdsReset => EncodesInItsRow.rdsReset
  | .accRd acc buf slot => EncodesInItsRow.accRd acc buf slot
  | .accRecv acc buf => EncodesInItsRow.accRecv acc buf
  | .accCur acc => EncodesInItsRow.accCur acc
  | .idRd sel => EncodesInItsRow.idRd sel

/-- The opcode and the fields of a command's word are the command's (R91, R93): each command over the values of its
operands. -/
theorem commandOf_encode (i : Instr) : commandOf (opcodeOf (encode i)).toNat (encode i) = .command i := by
  cases i with
  | nop | readAll | writeCfg | powerUp | powerDown | tune | rdsDecode | rdsReset => decide
  | shadowRd idx | shadowWr idx => revert idx; decide
  | fieldGet fid | fieldSet fid | fieldExtract fid => revert fid; decide
  | seek mode up => revert mode up; decide
  | rdsCapture fen gt gv => revert fen gt; cases gv <;> decide
  | accRd acc buf slot => revert slot; cases acc <;> cases buf <;> decide
  | accRecv acc buf => cases acc <;> cases buf <;> decide
  | accCur acc => cases acc <;> decide
  | idRd sel => cases sel <;> decide

/-- Settles O1: the word lies in its row, so the decoder reads its fields back. -/
theorem decodeOfEncodeIsTheCommand : Obligations.DecodeOfEncodeIsTheCommand := by
  intro i
  obtain ⟨row, hrow, hmatch⟩ := encodesInItsRow i
  rw [decode, hrow]
  exact (if_pos hmatch).trans (commandOf_encode i)

/-- Settles O4: twelve closed instances of the decoder. -/
theorem writtenOutWordsDecode : Obligations.WrittenOutWordsDecode := by
  unfold Obligations.WrittenOutWordsDecode
  decide
end Sys2Proof.Machine
end

section
/-! SUPPORT. What one step of a command can do, said once for every command and position: the step moves only hidden loop
state and the time base, around at most one deed (a transaction, a staged register, a decode, an event), or it completes,
reports an error, or halts the block. The facts about all steps are read off this. -/

namespace Sys2Proof.Machine

/-! ## Steering: hidden loop state and the time base -/

/-- `s` with its hidden loop state (10_state.md R48) and the time base's data blanked out. -/
def State.unsteered (s : State) : State :=
  { s with pos := .idle, t0 := 0, polls := 0, tc := 0,
           env := { s.env with clock := none, slackScript := [], nowDraws := 0 } }

/-- From `s` to `t` only the hidden loop state and the time base move; the time law's bound does not fall, and a deadline
start is kept or is a past `Now()` answer (60_exceptions.md R290). -/
structure Steers (s t : State) : Prop where
  rest : t.unsteered = s.unsteered
  clock : ∀ c, s.env.clock = some c → ∃ c', t.env.clock = some c' ∧ c ≤ c'
  t0 : t.t0 = s.t0 ∨ t.t0 ≤ t.env.nowBound
  tc : t.tc = s.tc ∨ t.tc ≤ t.env.nowBound

/-- The bound does not fall where the clock does not. -/
theorem nowBound_mono {e e' : Env} (h : ∀ c, e.clock = some c → ∃ c', e'.clock = some c' ∧ c ≤ c') :
    e.nowBound ≤ e'.nowBound := by
  unfold Env.nowBound
  cases hc : e.clock with
  | none => simp
  | some c =>
    obtain ⟨c', hc', hle⟩ := h c hc
    simpa [hc'] using hle

namespace Steers

variable {s t u : State}

/-- A step that leaves the time base and the deadline starts alone. -/
theorem of_untimed (rest : t.unsteered = s.unsteered := by rfl) (clock : t.env.clock = s.env.clock := by rfl)
    (t0 : t.t0 = s.t0 := by rfl) (tc : t.tc = s.tc := by rfl) : Steers s t :=
  ⟨rest, fun c hc => ⟨c, clock.trans hc, le_rfl⟩, .inl t0, .inl tc⟩

theorem refl (s : State) : Steers s s := .of_untimed

theorem nowBound_le (h : Steers s t) : s.env.nowBound ≤ t.env.nowBound := nowBound_mono h.clock

theorem trans (h : Steers s t) (h' : Steers t u) : Steers s u where
  rest := h'.rest.trans h.rest
  clock c hc := by
    obtain ⟨c', hc', hle⟩ := h.clock c hc
    obtain ⟨c'', hc'', hle'⟩ := h'.clock c' hc'
    exact ⟨c'', hc'', hle.trans hle'⟩
  t0 := by
    rcases h'.t0 with h2 | h2
    · exact h.t0.imp h2.trans fun h1 => h2 ▸ h1.trans h'.nowBound_le
    · exact .inr h2
  tc := by
    rcases h'.tc with h2 | h2
    · exact h.tc.imp h2.trans fun h1 => h2 ▸ h1.trans h'.nowBound_le
    · exact .inr h2

theorem goto (p : SeqPos) (s : State) : Steers s (goto p s) := .of_untimed

theorem delay (d : Nat) (s : State) : Steers s (delay d s) where
  rest := rfl
  clock c hc := ⟨c + d, by simp [hc], Nat.le_add_right c d⟩
  t0 := .inl rfl
  tc := .inl rfl

theorem popNow_clock_mono (e : Env) (c : Nat) (hc : e.clock = some c) :
    ∃ c', e.popNow.clock = some c' ∧ c ≤ c' :=
  ⟨_, rfl, by simpa [Env.nowBound, hc] using nowBound_le_nowAnswer e⟩

theorem tickNow (s : State) : Steers s s.tickNow := ⟨rfl, popNow_clock_mono s.env, .inl rfl, .inl rfl⟩

theorem sampleT0 (s : State) : Steers s (sampleT0 s) := ⟨rfl, popNow_clock_mono s.env, .inr le_rfl, .inl rfl⟩

theorem sampleTc (s : State) : Steers s (sampleTc s) := ⟨rfl, popNow_clock_mono s.env, .inl rfl, .inr le_rfl⟩

theorem tuneTest (s : State) : Steers s (tuneTest s) := by
  rcases tuneTest_cases s with ⟨_, h⟩ | ⟨_, h⟩ <;> exact h ▸ .of_untimed

theorem seekTest (s : State) : Steers s (seekTest s) := by
  rcases seekTest_cases s with ⟨_, h⟩ | ⟨_, _, h⟩ | ⟨_, _, h⟩
  · exact h ▸ goto _ s
  · exact h ▸ (tickNow s).trans (goto _ _)
  · exact h ▸ (tickNow s).trans (goto _ _)

theorem fetchTest {group none : State → State} (hg : ∀ s, Steers s (group s)) (hn : ∀ s, Steers s (none s)) (s : State) :
    Steers s (fetchTest group none s) := by
  rcases fetchTest_cases group none s with ⟨_, h⟩ | ⟨_, _, h⟩ | ⟨_, _, h⟩
  · exact h ▸ hg s
  · exact h ▸ (tickNow s).trans (hn _)
  · exact h ▸ (tickNow s).trans (goto _ _)

theorem captureGroup (fen : Bool) (gt : BitVec 4) (gv : GroupVer) (s : State) :
    Steers s (captureGroup fen gt gv s) := by
  rcases captureGroup_cases fen gt gv s with ⟨_, h⟩ | ⟨_, h⟩ <;> exact h ▸ goto _ s

/-! What steering leaves, field by field. -/

variable (h : Steers s t)
include h

theorem x : t.x = s.x := (congrArg State.x h.rest :)
theorem seqState : t.seqState = s.seqState := (congrArg State.seqState h.rest :)
theorem busErr : t.busErr = s.busErr := (congrArg State.busErr h.rest :)
theorem cwCur : t.cwCur = s.cwCur := (congrArg State.cwCur h.rest :)
theorem argCur : t.argCur = s.argCur := (congrArg State.argCur h.rest :)
theorem arg : t.arg = s.arg := (congrArg State.arg h.rest :)
theorem dropped : t.dropped = s.dropped := (congrArg State.dropped h.rest :)
theorem result : t.result = s.result := (congrArg State.result h.rest :)
theorem acc : t.acc = s.acc := (congrArg State.acc h.rest :)
theorem ident : t.ident = s.ident := (congrArg State.ident h.rest :)
theorem events : t.events = s.events := (congrArg State.events h.rest :)
theorem bus : t.bus = s.bus := (congrArg State.bus h.rest :)
theorem params : t.env.params = s.env.params := congrArg (·.env.params) h.rest
theorem agenda : t.env.agenda = s.env.agenda := congrArg (·.env.agenda) h.rest
theorem hostReads : t.env.hostReads = s.env.hostReads := congrArg (·.env.hostReads) h.rest
theorem peekRead : t.env.peekRead = s.env.peekRead := congrArg (·.env.peekRead) h.rest

end Steers

/-! ## Staging: named fields of the write window -/

/-- `u` is `s` with named fields of the registers 0x02 to 0x07 staged in the shadow (41_field_decoder.md R140, R144). -/
structure Stages (s u : State) : Prop where
  rest : u = s.withShadow u.x
  window : ∀ j : BitVec 4, (j.toNat < 2 ∨ 7 < j.toNat) → u.reg j = s.reg j
  unnamed : ∀ (j : BitVec 4) (m : Word), unnamedOf[j.toNat]? = some m → u.reg j &&& m = s.reg j &&& m

namespace Stages

variable {s t u : State}

theorem refl (s : State) : Stages s s := ⟨rfl, fun _ _ => rfl, fun _ _ _ => rfl⟩

theorem trans (h : Stages s t) (h' : Stages t u) : Stages s u where
  rest := by
    rw [h'.rest, h.rest]
    rfl
  window j hj := (h'.window j hj).trans (h.window j hj)
  unnamed j m hm := (h'.unnamed j m hm).trans (h.unnamed j m hm)

/-- A row of the field table that lies in the write window. -/
def Row (f : FieldRow) : Prop := f ∈ fieldTable ∧ 2 ≤ f.reg.toNat ∧ f.reg.toNat ≤ 7

theorem setField {f : FieldRow} (a : Word) (s : State) (hf : Row f) : Stages s (s.setField f a) where
  rest := rfl
  window j hj := by
    obtain ⟨_, hlo, hhi⟩ := hf
    rw [reg_setField, if_neg]
    rintro rfl
    omega
  unnamed j m hm := by
    rw [reg_setField]
    split
    · next hj =>
      subst hj
      exact FieldRow.set_and_of_disjoint (mask_and_unnamed hf.1 hm) _ _
    · rfl

/-- One more field on top of those already staged. -/
theorem andField {f : FieldRow} {a : Word} (h : Stages s u) (hf : Row f := by unfold Stages.Row; decide) :
    Stages s (u.setField f a) :=
  h.trans (setField a u hf)

theorem tune (f : Word) (s : State) : Stages s (stageTune f s) := (refl s).andField.andField

theorem powerUp (s : State) : Stages s (stagePowerUp s) :=
  (refl s).andField.andField.andField.andField.andField.andField.andField.andField.andField

theorem powerDown (s : State) : Stages s (stagePowerDown s) :=
  (refl s).andField.andField.andField.andField.andField.andField.andField

theorem seek (mode up : BitVec 1) (s : State) : Stages s (stageSeek mode up s) := (refl s).andField.andField.andField

end Stages

/-- A read/write field id names a row in the write window (R145). -/
theorem row_of_writableFid : ∀ fid : BitVec 6, writableFid fid = true → Stages.Row (fieldRow fid) := by
  unfold Stages.Row
  decide

/-! ## Deeds and effects -/

/-- The commands that enter a transient state (42_tuning_fsm.md R170). -/
def isSequence : Instr → Bool
  | .powerUp | .powerDown | .seek _ _ | .tune | .rdsDecode | .rdsCapture _ _ _ => true
  | _ => false

/-- The commands that write RESULT (10_state.md R40). -/
def isReader : Instr → Bool
  | .shadowRd _ | .fieldGet _ | .fieldExtract _ | .accRd _ _ _ | .accRecv _ _ | .accCur _ | .idRd _ => true
  | _ => false

/-- The commands that stage fields in the shadow (10_state.md R20). -/
def isStager : Instr → Bool
  | .fieldSet _ | .powerUp | .powerDown | .seek _ _ | .tune => true
  | _ => false

/-- A capture (43_rds_decoder.md R241). -/
def isCapture : Instr → Bool
  | .rdsCapture _ _ _ => true
  | _ => false

/-- `u` is `s`, or `s` with fields staged by a command that stages any. -/
def Prepares (i : Instr) (s u : State) : Prop := u = s ∨ isStager i = true ∧ Stages s u

/-- The one deed of a step of command `i` that neither fails nor writes RESULT. -/
inductive Deed (i : Instr) (s : State) : State → Prop where
  | prepared (u : State) (prepares : Prepares i s u) : Deed i s u
  | read (b : List Byte) (answer : s.env.peekRead = .bytes b) (len : b.length = 32) : Deed i s (afterRead b s)
  | wrote (u : State) (prepares : Prepares i s u) : Deed i s (afterWrite u)
  | stored (idx : BitVec 4) (v : Word) (window : writableIndex idx = true) (writer : i = .shadowWr idx) :
      Deed i s (s.setReg idx v)
  | decoded (decoder : isCapture i = false) : Deed i s (decodeStep s)
  | emitted (a b c d : Word) : Deed i s (emit (.raw a b c d) s)
  | cleared (station : isCapture i = false) : Deed i s (resetAccumulators s)

/-- While the tune loop runs the poll counter is below `n`, unless `n` is 0 (42_tuning_fsm.md R175). -/
def State.PollsBelow (n : Nat) (s : State) : Prop :=
  s.pos = .tunePoll ∨ s.pos = .tuneDelay → 0 < n → s.polls < n

/-- The step stays at the positions of its own command (10_state.md R48) and keeps the bound of the tune loop. -/
structure Advances (i : Instr) (s t : State) : Prop where
  own : s.pos = .start ∨ ownPosition i s.pos = true → ownPosition i t.pos = true
  polls : s.PollsBelow s.env.params.nTunePolls → t.PollsBelow s.env.params.nTunePolls

/-- What the step of command `i` from `s` to `t` is. -/
inductive Effect (i : Instr) (s t : State) : Prop where
  | accepted (idle : s.pos = .idle) (eq : t = accept (encode i) s)
  | raised (e : ErrCode) (simple : s.pos = .reject e ∨ isSequence i = false) (eq : t = raise e s)
  | answered (v : Word) (reader : isReader i = true) (eq : t = completeWith v s)
  | readFailed (m : State) (steers : Steers s m) (eq : t = failedRead m)
  | writeFailed (u : State) (prepares : Prepares i s u) (eq : t = failedWrite u)
  | goesOn (m u : State) (before : Steers s m) (deed : Deed i m u) (after : Steers u t) (advances : Advances i s t)
  | completes (m u : State) (o : OutcomeCode) (before : Steers s m) (deed : Deed i m u)
      (eq : t = completeIn (completedState i u.seqState) o u)

/-! ## The shared parts of the commands -/

section
variable {i : Instr} {s t : State}

theorem Prepares.self (i : Instr) (s : State) : Prepares i s s := .inl rfl

theorem Advances.of_pos {p : SeqPos} (hp : t.pos = p) (hown : ownPosition i p = true := by rfl)
    (hpoll : p ≠ .tunePoll := by nofun) (hdelay : p ≠ .tuneDelay := by nofun) : Advances i s t :=
  ⟨fun _ => hp ▸ hown, fun _ h => (h.elim (fun h => hpoll (hp ▸ h)) fun h => hdelay (hp ▸ h)).elim⟩

theorem Effect.of_steers (h : Steers s t) (hadv : Advances i s t) : Effect i s t :=
  .goesOn s s (.refl s) (.prepared s (.self i s)) h hadv

theorem Effect.of_complete {o : OutcomeCode} (hsimple : completedState i s.seqState = s.seqState) :
    Effect i s (complete o s) :=
  .completes s s o (.refl s) (.prepared s (.self i s)) (by rw [hsimple]; rfl)

/-- A check raises its error or lets the step go on (60_exceptions.md R282, R283). -/
theorem Effect.of_check {c : Prop} [Decidable c] (e : ErrCode) (hsimple : isSequence i = false) (h : Effect i s t) :
    Effect i s (if c then raise e s else t) := by
  split
  · exact .raised e (.inr hsimple) rfl
  · exact h

theorem readAll_effect {k : State → State} {m : State} (hm : Steers s m) (hk : ∀ u, Steers u (k u))
    (hadv : ∀ b, Advances i s (k (afterRead b m))) : Effect i s (readAll k m) := by
  rcases readAll_cases k m with ⟨b, hb, hl, h⟩ | ⟨_, h⟩ <;> rw [h]
  · exact .goesOn m _ hm (.read b hb hl) (hk _) (hadv b)
  · exact .readFailed m hm rfl

theorem writeCfg_effect {k : State → State} {u : State} (hu : Prepares i s u) (hk : ∀ u, Steers u (k u))
    (hadv : Advances i s (k (afterWrite u))) : Effect i s (writeCfg k u) := by
  rcases writeCfg_cases k u with ⟨_, h⟩ | ⟨_, h⟩ <;> rw [h]
  · exact .goesOn s _ (.refl s) (.wrote u hu) (hk _) hadv
  · exact .writeFailed u hu rfl

theorem offSequence_effect (h : offSequence i s = .next t) : Effect i s t := by
  rcases offSequence_cases h with ⟨hp, rfl⟩ | ⟨e, hp, rfl⟩
  · exact .accepted hp rfl
  · exact .raised e (.inl hp) rfl

/-- A delay between two positions of a command. -/
theorem delay_effect (d : Nat) (p : SeqPos) (hown : ownPosition i p = true := by rfl)
    (hpoll : p ≠ .tunePoll := by nofun) (hdelay : p ≠ .tuneDelay := by nofun) : Effect i s (goto p (delay d s)) :=
  .of_steers ((Steers.delay d s).trans (.goto p _)) (.of_pos rfl hown hpoll hdelay)

/-! ### TuneSeq -/

theorem tuneTriggerStep_effect (f : Word) (hi : i = .tune ∨ i = .powerUp) : Effect i s (tuneTriggerStep f s) := by
  have hstage : Prepares i s (stageTune f s) := .inr ⟨by rcases hi with rfl | rfl <;> rfl, .tune f s⟩
  refine writeCfg_effect (k := fun s => { s with polls := 0, pos := .tunePoll }) hstage (fun _ => .of_untimed) ⟨fun _ => ?_,
    fun _ _ hn => hn⟩
  rcases hi with rfl | rfl <;> rfl

theorem tunePollStep_effect (hi : i = .tune ∨ i = .powerUp) (hp : s.pos = .tunePoll) :
    Effect i s (tunePollStep s) := by
  refine readAll_effect (.refl s) Steers.tuneTest fun b => ?_
  have hown : ∀ p, tuneSeqPosition p = true → ownPosition i p = true := by
    rcases hi with rfl | rfl <;> simp +contextual [ownPosition]
  rcases tuneTest_cases (afterRead b s) with ⟨_, h⟩ | ⟨hmore, h⟩ <;> rw [h]
  · exact .of_pos rfl (hown _ (isPollOutcome_pollOutcome _))
  · refine ⟨fun _ => hown _ rfl, fun hbelow _ hn => ?_⟩
    have hlt : s.polls < s.env.params.nTunePolls := hbelow (.inl hp) hn
    have hne : s.polls + 1 ≠ s.env.params.nTunePolls := fun heq => hmore (.inr (.inr heq))
    exact Nat.lt_of_le_of_ne hlt hne

theorem tuneDelayStep_effect (hi : i = .tune ∨ i = .powerUp) (hp : s.pos = .tuneDelay) :
    Effect i s (tuneDelayStep s) :=
  .of_steers ((Steers.delay _ s).trans (.goto _ _))
    ⟨fun _ => by rcases hi with rfl | rfl <;> rfl, fun hbelow _ => hbelow (.inr hp)⟩

theorem tuneExitStep_effect {o : OutcomeCode} (hi : i = .tune ∨ i = .powerUp) (hp : s.pos = .tuneExit o) :
    Effect i s (tuneExitStep o s) := by
  refine writeCfg_effect (.inr ⟨by rcases hi with rfl | rfl <;> rfl, (Stages.refl s).andField⟩) (.goto _)
    ⟨fun hown => ?_, fun _ => nofun⟩
  rw [hp] at hown
  rcases hi with rfl | rfl <;> simpa [ownPosition, tuneSeqPosition] using hown

theorem exitDoneStep_effect (o : OutcomeCode) (hi : ∀ st, completedState i st = .ready) (hc : isCapture i = false) :
    Effect i s (exitDoneStep o s) :=
  .completes s _ o (.refl s) (.cleared hc) (by rw [hi]; rfl)

end

/-! ## The commands of several steps -/

section
variable {s t : State}

theorem execPowerUp_effect (h : execPowerUp s = .next t) : Effect .powerUp s t := by
  unfold execPowerUp at h
  split at h
  case h_11 => exact offSequence_effect h
  all_goals obtain rfl := Host.Outcome.next.inj h
  case h_1 => exact readAll_effect (.refl s) (.goto _) fun _ => .of_pos rfl
  case h_2 => exact writeCfg_effect (.inr ⟨rfl, (Stages.refl s).andField⟩) (.goto _) (.of_pos rfl)
  case h_3 => exact delay_effect _ _
  case h_4 => exact writeCfg_effect (.inr ⟨rfl, .powerUp s⟩) (.goto _) (.of_pos rfl)
  case h_5 => exact delay_effect _ _
  case h_6 => exact tuneTriggerStep_effect _ (.inr rfl)
  case h_7 hp => exact tunePollStep_effect (.inr rfl) hp
  case h_8 hp => exact tuneDelayStep_effect (.inr rfl) hp
  case h_9 hp => exact tuneExitStep_effect (.inr rfl) hp
  case h_10 => exact exitDoneStep_effect _ (fun _ => rfl) rfl

theorem execPowerDown_effect (h : execPowerDown s = .next t) : Effect .powerDown s t := by
  unfold execPowerDown at h
  split at h
  case h_4 => exact offSequence_effect h
  all_goals obtain rfl := Host.Outcome.next.inj h
  case h_1 => exact writeCfg_effect (.inr ⟨rfl, .powerDown s⟩) (.goto _) (.of_pos rfl)
  case h_2 => exact delay_effect _ _
  case h_3 => exact .completes s s _ (.refl s) (.prepared s (.self _ s)) rfl

theorem execSeek_effect {mode up : BitVec 1} (h : execSeek mode up s = .next t) : Effect (.seek mode up) s t := by
  unfold execSeek at h
  split at h
  case h_6 => exact offSequence_effect h
  all_goals obtain rfl := Host.Outcome.next.inj h
  case h_1 =>
    exact writeCfg_effect (.inr ⟨rfl, .seek mode up s⟩) (fun u => (Steers.sampleT0 u).trans (.goto _ _)) (.of_pos rfl)
  case h_2 =>
    refine readAll_effect (.refl s) Steers.seekTest fun b => ?_
    rcases seekTest_pos (afterRead b s) with hp | hp
    · exact .of_pos hp
    · exact .of_pos hp (isPollOutcome_pollOutcome _)
  case h_3 => exact delay_effect _ _
  case h_4 hp =>
    exact writeCfg_effect (.inr ⟨rfl, (Stages.refl s).andField⟩) (.goto _)
      ⟨fun hown => by simpa [hp, ownPosition] using hown, fun _ => nofun⟩
  case h_5 => exact exitDoneStep_effect _ (fun _ => rfl) rfl

theorem execTune_effect (h : execTune s = .next t) : Effect .tune s t := by
  unfold execTune at h
  split at h
  case h_6 => exact offSequence_effect h
  all_goals obtain rfl := Host.Outcome.next.inj h
  case h_1 => exact tuneTriggerStep_effect _ (.inl rfl)
  case h_2 hp => exact tunePollStep_effect (.inl rfl) hp
  case h_3 hp => exact tuneDelayStep_effect (.inl rfl) hp
  case h_4 hp => exact tuneExitStep_effect (.inl rfl) hp
  case h_5 => exact exitDoneStep_effect _ (fun _ => rfl) rfl

/-- A fetch poll goes on at a position of its command, if what follows the poll does (43_rds_decoder.md R210). -/
theorem fetchTest_advances {i : Instr} {group none : State → State} {m : State}
    (hg : ∀ u, Advances i s (group u)) (hn : ∀ u, Advances i s (none u))
    (hdelay : ownPosition i .fetchDelay = true) : Advances i s (fetchTest group none m) := by
  rcases fetchTest_cases group none m with ⟨_, h⟩ | ⟨_, _, h⟩ | ⟨_, _, h⟩ <;> rw [h]
  · exact hg m
  · exact hn _
  · exact .of_pos rfl hdelay

theorem execRdsDecode_effect (h : execRdsDecode s = .next t) : Effect .rdsDecode s t := by
  have hsteers := Steers.fetchTest (.goto .decodeGroup) (.goto (.finish .hwTimeout))
  have hadv (m : State) : Advances .rdsDecode s (fetchTest decodeNext decodeTimeout m) :=
    fetchTest_advances (fun _ => .of_pos rfl) (fun _ => .of_pos rfl) rfl
  unfold execRdsDecode at h
  split at h
  case h_6 => exact offSequence_effect h
  all_goals obtain rfl := Host.Outcome.next.inj h
  case h_1 => exact readAll_effect (.sampleT0 s) hsteers fun _ => hadv _
  case h_2 => exact readAll_effect (.refl s) hsteers fun _ => hadv _
  case h_3 => exact delay_effect _ _
  case h_4 => exact .goesOn s _ (.refl s) (.decoded rfl) (.goto _ _) (.of_pos rfl)
  case h_5 => exact .completes s s _ (.refl s) (.prepared s (.self _ s)) rfl

/-- At its deadline test a capture completes in READY or begins a fetch cycle (43_rds_decoder.md R241). -/
theorem captureTestStep_effect (fen : Bool) (gt : BitVec 4) (gv : GroupVer) {m : State} (hm : Steers s m)
    (hadv : ∀ u, Advances (.rdsCapture fen gt gv) s (fetchTest (captureGroup fen gt gv) captureNone u)) :
    Effect (.rdsCapture fen gt gv) s (captureTestStep fen gt gv m) := by
  by_cases hleft : m.nowAnswer < m.tc + m.argCur.toNat * m.env.params.captureUnitMs
  · rw [captureTestStep_running fen gt gv hleft]
    exact readAll_effect (hm.trans ((Steers.tickNow m).trans (.sampleT0 _)))
      (Steers.fetchTest (.captureGroup fen gt gv) (.goto _)) fun _ => hadv _
  · rw [captureTestStep_expired fen gt gv hleft]
    exact .completes _ _ .ok (hm.trans (.tickNow m)) (.prepared _ (.self _ _)) rfl

theorem execRdsCapture_effect {fen : Bool} {gt : BitVec 4} {gv : GroupVer} (h : execRdsCapture fen gt gv s = .next t) :
    Effect (.rdsCapture fen gt gv) s t := by
  have hadv (m : State) : Advances (.rdsCapture fen gt gv) s (fetchTest (captureGroup fen gt gv) captureNone m) :=
    fetchTest_advances
      (fun u => by rcases captureGroup_cases fen gt gv u with ⟨_, h⟩ | ⟨_, h⟩ <;> rw [h] <;> exact .of_pos rfl)
      (fun _ => .of_pos rfl) rfl
  unfold execRdsCapture at h
  split at h
  case h_7 => exact offSequence_effect h
  all_goals obtain rfl := Host.Outcome.next.inj h
  case h_1 => exact captureTestStep_effect fen gt gv (.sampleTc s) hadv
  case h_2 => exact captureTestStep_effect fen gt gv (.refl s) hadv
  case h_3 => exact readAll_effect (.refl s) (Steers.fetchTest (.captureGroup fen gt gv) (.goto _)) fun _ => hadv _
  case h_4 => exact delay_effect _ _
  case h_5 => exact .goesOn s _ (.refl s) (.emitted _ _ _ _) (.goto _ _) (.of_pos rfl)
  case h_6 => exact delay_effect _ _

theorem execReadAll_effect (h : execReadAll s = .next t) : Effect .readAll s t := by
  unfold execReadAll at h
  split at h
  case h_3 => exact offSequence_effect h
  all_goals obtain rfl := Host.Outcome.next.inj h
  case h_1 => exact readAll_effect (.refl s) (.goto _) fun _ => .of_pos rfl
  case h_2 => exact .of_complete rfl

theorem execWriteCfg_effect (h : execWriteCfg s = .next t) : Effect .writeCfg s t := by
  unfold execWriteCfg at h
  split at h
  case h_3 => exact offSequence_effect h
  all_goals obtain rfl := Host.Outcome.next.inj h
  case h_1 =>
    split
    · exact writeCfg_effect (.self _ s) (.goto _) (.of_pos rfl)
    · exact .raised .notSynced (.inr rfl) rfl
  case h_2 => exact .of_complete rfl

theorem execFieldGet_effect {fid : BitVec 6} (h : execFieldGet fid s = .next t) : Effect (.fieldGet fid) s t := by
  unfold execFieldGet at h
  split at h
  case h_3 => exact offSequence_effect h
  all_goals obtain rfl := Host.Outcome.next.inj h
  case h_1 =>
    refine .of_check .badIndex rfl ?_
    split
    · exact readAll_effect (.refl s) (.goto _) fun _ => .of_pos rfl
    · exact .of_check .notSynced rfl (.answered _ rfl rfl)
  case h_2 => exact .answered _ rfl rfl

end

/-! ## The commands of one step -/

/-- The commands that complete in their first step and make no transaction. -/
def isOneStep : Instr → Bool
  | .nop | .shadowRd _ | .shadowWr _ | .fieldSet _ | .fieldExtract _ | .rdsReset | .accRd _ _ _ | .accRecv _ _
  | .accCur _ | .idRd _ => true
  | _ => false

section
variable {s : State}

theorem exec_of_isOneStep {i : Instr} (hi : isOneStep i = true) (hp : s.pos ≠ .start) : exec i s = offSequence i s := by
  cases i
  case nop | shadowRd | shadowWr | fieldSet | fieldExtract | rdsReset | accRd | accRecv | accCur | idRd =>
    simp only [exec, execNop, execShadowRd, execShadowWr, execFieldSet, execFieldExtract, execRdsReset, execAccRd,
      execAccRecv, execAccCur, execIdRd]
  all_goals cases hi

section
variable (hp : s.pos = .start)
include hp

theorem exec_nop_start : exec .nop s = .next (complete .ok s) := by
  simp only [exec, execNop, hp]

theorem exec_shadowRd_start (idx : BitVec 4) : exec (.shadowRd idx) s =
    .next (if s.shadowValid then completeWith (s.reg idx) s else raise .notSynced s) := by
  simp only [exec, execShadowRd, hp]

theorem exec_shadowWr_start (idx : BitVec 4) : exec (.shadowWr idx) s =
    .next (if !writableIndex idx then raise .badIndex s else if !s.shadowValid then raise .notSynced s
      else complete .ok (s.setReg idx s.argCur)) := by
  simp only [exec, execShadowWr, hp]

theorem exec_fieldSet_start (fid : BitVec 6) : exec (.fieldSet fid) s =
    .next (if !writableFid fid then raise .badIndex s
      else if 2 ^ (fieldRow fid).width ≤ s.argCur.toNat then raise .badValue s
      else if !s.shadowValid then raise .notSynced s else complete .ok (s.setField (fieldRow fid) s.argCur)) := by
  simp only [exec, execFieldSet, hp]

theorem exec_fieldExtract_start (fid : BitVec 6) : exec (.fieldExtract fid) s =
    .next (if !knownFid fid then raise .badIndex s else completeWith (fieldValue fid s.argCur) s) := by
  simp only [exec, execFieldExtract, hp]

theorem exec_rdsReset_start : exec .rdsReset s = .next (complete .ok (resetAccumulators s)) := by
  simp only [exec, execRdsReset, hp]

theorem exec_accRd_start (acc : AccId) (buf : BufId) (slot : BitVec 6) : exec (.accRd acc buf slot) s =
    .next (if accWidth acc ≤ slot.toNat then raise .badIndex s
      else completeWith (s.slotOf acc buf slot.toNat).word s) := by
  simp only [exec, execAccRd, hp]

theorem exec_accRecv_start (acc : AccId) (buf : BufId) : exec (.accRecv acc buf) s =
    .next (completeWith (s.recvOf acc buf) s) := by
  simp only [exec, execAccRecv, hp]

theorem exec_accCur_start (acc : AccId) : exec (.accCur acc) s =
    .next (completeWith ((bufBit (s.curFlagOf acc)).setWidth 16) s) := by
  simp only [exec, execAccCur, hp]

theorem exec_idRd_pi_start : exec (.idRd .pi) s = .next (completeWith s.ident.pi s) := by
  simp only [exec, execIdRd, hp]

theorem exec_idRd_info_start : exec (.idRd .info) s = .next (completeWith s.ident.info s) := by
  simp only [exec, execIdRd, hp]

end

end

/-! ## Every command -/

section
variable {s t : State}

theorem exec_effect_of_isOneStep {i : Instr} (hi : isOneStep i = true) (h : exec i s = .next t) : Effect i s t := by
  by_cases hp : s.pos = .start
  case neg => exact offSequence_effect ((exec_of_isOneStep hi hp).symm.trans h)
  cases i
  case nop =>
    obtain rfl := Host.Outcome.next.inj ((exec_nop_start hp).symm.trans h)
    exact .of_complete rfl
  case rdsReset =>
    obtain rfl := Host.Outcome.next.inj ((exec_rdsReset_start hp).symm.trans h)
    exact .completes s _ .ok (.refl s) (.cleared rfl) rfl
  case accRecv acc buf =>
    obtain rfl := Host.Outcome.next.inj ((exec_accRecv_start hp acc buf).symm.trans h)
    exact .answered _ rfl rfl
  case accCur acc =>
    obtain rfl := Host.Outcome.next.inj ((exec_accCur_start hp acc).symm.trans h)
    exact .answered _ rfl rfl
  case idRd sel =>
    cases sel
    · obtain rfl := Host.Outcome.next.inj ((exec_idRd_pi_start hp).symm.trans h)
      exact .answered _ rfl rfl
    · obtain rfl := Host.Outcome.next.inj ((exec_idRd_info_start hp).symm.trans h)
      exact .answered _ rfl rfl
  case fieldExtract fid =>
    obtain rfl := Host.Outcome.next.inj ((exec_fieldExtract_start hp fid).symm.trans h)
    exact .of_check .badIndex rfl (.answered _ rfl rfl)
  case accRd acc buf slot =>
    obtain rfl := Host.Outcome.next.inj ((exec_accRd_start hp acc buf slot).symm.trans h)
    exact .of_check .badIndex rfl (.answered _ rfl rfl)
  case shadowRd idx =>
    obtain rfl := Host.Outcome.next.inj ((exec_shadowRd_start hp idx).symm.trans h)
    split
    · exact .answered _ rfl rfl
    · exact .raised .notSynced (.inr rfl) rfl
  case shadowWr idx =>
    obtain rfl := Host.Outcome.next.inj ((exec_shadowWr_start hp idx).symm.trans h)
    split_ifs with hidx hvalid
    · exact .raised .badIndex (.inr rfl) rfl
    · exact .raised .notSynced (.inr rfl) rfl
    · exact .completes s _ .ok (.refl s) (.stored idx _ (by simpa using hidx) rfl) rfl
  case fieldSet fid =>
    obtain rfl := Host.Outcome.next.inj ((exec_fieldSet_start hp fid).symm.trans h)
    split_ifs with hfid hval hvalid
    · exact .raised .badIndex (.inr rfl) rfl
    · exact .raised .badValue (.inr rfl) rfl
    · exact .raised .notSynced (.inr rfl) rfl
    · have hrow := row_of_writableFid fid (by simpa using hfid)
      exact .completes s _ .ok (.refl s) (.prepared _ (.inr ⟨rfl, .setField _ s hrow⟩)) rfl
  all_goals cases hi

/-- Every step of every command is an `Effect`. -/
theorem exec_effect {i : Instr} (h : exec i s = .next t) : Effect i s t := by
  cases i
  case powerUp => exact execPowerUp_effect h
  case powerDown => exact execPowerDown_effect h
  case seek => exact execSeek_effect h
  case tune => exact execTune_effect h
  case rdsDecode => exact execRdsDecode_effect h
  case rdsCapture => exact execRdsCapture_effect h
  case readAll => exact execReadAll_effect h
  case writeCfg => exact execWriteCfg_effect h
  case fieldGet => exact execFieldGet_effect h
  all_goals exact exec_effect_of_isOneStep rfl h

end

end Sys2Proof.Machine
end

section
/-! SUPPORT. What the steps of the machine leave alone: the frames read off `Effect`, for a command's step, and off `Acts`,
for a step of the machine with the host's actions. -/

namespace Sys2Proof.Machine

/-! ## A step of a command -/

section
variable {i : Instr} {s t u : State}

/-- What a deed leaves alone. -/
theorem Deed.rest (h : Deed i s u) :
    u = { s with
      x := u.x, shadowValid := u.shadowValid, acc := u.acc, ident := u.ident, events := u.events, bus := u.bus,
      env := { s.env with readScript := u.env.readScript, readDraws := u.env.readDraws,
                          writeScript := u.env.writeScript, writeDraws := u.env.writeDraws } } := by
  cases h with
  | prepared _ prepares =>
    rcases prepares with rfl | ⟨_, hst⟩
    · rfl
    · rw [hst.rest]; rfl
  | wrote v prepares =>
    rcases prepares with rfl | ⟨_, hst⟩
    · rfl
    · rw [hst.rest]; rfl
  | decoded _ =>
    obtain ⟨acc, es, _, h⟩ := decodeBlocks_shape (s.reg 0xC) (s.reg 0xD) (s.reg 0xE) (s.reg 0xF) s
    rw [decodeStep, h]
  | read | stored | emitted | cleared => rfl

theorem Prepares.rest (h : Prepares i s u) : u = s.withShadow u.x := by
  rcases h with rfl | ⟨_, hst⟩
  · rfl
  · exact hst.rest

/-! ### Operands -/

/-- The latched operands, ARG, DROPPED, the parameters and the host's data. -/
def State.operands (s : State) :=
  (s.cwCur, s.argCur, s.arg, s.dropped, s.env.params, s.env.agenda, s.env.hostReads)

theorem Steers.operands (h : Steers s t) : t.operands = s.operands := (congrArg State.operands h.rest :)

theorem Deed.operands (h : Deed i s u) : u.operands = s.operands := by
  rw [h.rest]
  rfl

theorem Effect.operands (hp : s.pos ≠ .idle) (h : Effect i s t) : t.operands = s.operands := by
  cases h with
  | accepted idle _ => exact absurd idle hp
  | raised e _ eq => exact eq ▸ rfl
  | answered v _ eq => exact eq ▸ rfl
  | readFailed m steers eq => exact eq ▸ steers.operands
  | writeFailed u prepares eq =>
    rw [eq, prepares.rest]
    rfl
  | goesOn m u before deed after _ => exact after.operands.trans (deed.operands.trans before.operands)
  | completes m u o before deed eq => exact eq ▸ deed.operands.trans before.operands

/-- Settles O21: every effect of a step carries the operands along. -/
theorem runningCommandKeepsItsOperands : Obligations.RunningCommandKeepsItsOperands := by
  intro i s t hp h
  simpa only [State.operands, Prod.mk.injEq] using (exec_effect h).operands hp

/-! ### Histories -/

/-- `l'` is `l` with at most one entry appended. -/
def GrowsByOne {α : Type} (l l' : List α) : Prop := ∃ es, l' = l ++ es ∧ es.length ≤ 1

theorem GrowsByOne.of_eq {α : Type} {l l' : List α} (h : l' = l) : GrowsByOne l l' := ⟨[], by simp [h], by simp⟩

theorem GrowsByOne.append {α : Type} (l : List α) (a : α) : GrowsByOne l (l ++ [a]) := ⟨[a], rfl, le_rfl⟩

/-- Both histories grow by at most one entry (10_state.md R45, R46). -/
def HistoriesGrow (s t : State) : Prop := GrowsByOne s.bus t.bus ∧ GrowsByOne s.events t.events

theorem HistoriesGrow.of_eq (hbus : t.bus = s.bus) (hevents : t.events = s.events) : HistoriesGrow s t :=
  ⟨.of_eq hbus, .of_eq hevents⟩

theorem HistoriesGrow.congr {s' t' : State} (h : HistoriesGrow s t) (hs : s.bus = s'.bus ∧ s.events = s'.events)
    (ht : t'.bus = t.bus ∧ t'.events = t.events) : HistoriesGrow s' t' := by
  obtain ⟨hs1, hs2⟩ := hs
  obtain ⟨ht1, ht2⟩ := ht
  rw [HistoriesGrow, ht1, ht2, ← hs1, ← hs2]
  exact h

theorem Deed.historiesGrow (h : Deed i s u) : HistoriesGrow s u := by
  cases h with
  | prepared _ prepares => rw [prepares.rest]; exact .of_eq rfl rfl
  | read b _ _ => exact ⟨.append _ _, .of_eq rfl⟩
  | wrote v prepares => rw [prepares.rest]; exact ⟨.append _ _, .of_eq rfl⟩
  | stored | cleared => exact .of_eq rfl rfl
  | decoded _ =>
    obtain ⟨acc, es, hlen, h⟩ := decodeBlocks_shape (s.reg 0xC) (s.reg 0xD) (s.reg 0xE) (s.reg 0xF) s
    rw [decodeStep, h]
    exact ⟨.of_eq rfl, es, rfl, hlen⟩
  | emitted a b c d => exact ⟨.of_eq rfl, .append _ _⟩

theorem Effect.historiesGrow (hp : s.pos ≠ .idle) (h : Effect i s t) : HistoriesGrow s t := by
  cases h with
  | accepted idle _ => exact absurd idle hp
  | raised e _ eq => exact eq ▸ .of_eq rfl rfl
  | answered v _ eq => exact eq ▸ .of_eq rfl rfl
  | readFailed m steers eq =>
    rw [eq]
    exact ⟨⟨_, by rw [failedRead_bus, steers.bus], le_rfl⟩, .of_eq steers.events⟩
  | writeFailed u prepares eq =>
    rw [eq, prepares.rest]
    exact ⟨.append _ _, .of_eq rfl⟩
  | goesOn m u before deed after _ =>
    exact deed.historiesGrow.congr ⟨before.bus, before.events⟩ ⟨after.bus, after.events⟩
  | completes m u o before deed eq =>
    exact deed.historiesGrow.congr ⟨before.bus, before.events⟩ (eq ▸ ⟨rfl, rfl⟩)

/-! ### STATE and BUSERR -/

/-- What a step of command `i` does to STATE and BUSERR (10_state.md R35, 60_exceptions.md R286). -/
inductive StateMove (i : Instr) (s t : State) : Prop where
  | halted (idle : t.pos = .idle) (state : t.seqState = .halted) (err : t.busErr = true)
  | kept (state : t.seqState = s.seqState) (err : t.busErr = s.busErr)
  | completed (idle : t.pos = .idle) (state : t.seqState = completedState i s.seqState) (err : t.busErr = s.busErr)

theorem Deed.seqState (h : Deed i s u) : u.seqState = s.seqState := by rw [h.rest]

theorem Deed.busErr (h : Deed i s u) : u.busErr = s.busErr := by rw [h.rest]

theorem Effect.stateMove (hp : s.pos ≠ .idle) (h : Effect i s t) : StateMove i s t := by
  cases h with
  | accepted idle _ => exact absurd idle hp
  | raised e _ eq => exact eq ▸ .kept rfl rfl
  | answered v _ eq => exact eq ▸ .kept rfl rfl
  | readFailed m _ eq => exact eq ▸ .halted rfl rfl rfl
  | writeFailed u _ eq => exact eq ▸ .halted rfl rfl rfl
  | goesOn m u before deed after _ =>
    exact .kept (after.seqState.trans (deed.seqState.trans before.seqState))
      (after.busErr.trans (deed.busErr.trans before.busErr))
  | completes m u o before deed eq =>
    rw [eq]
    refine .completed rfl ?_ (deed.busErr.trans before.busErr)
    rw [completeIn_seqState, deed.seqState, before.seqState]

/-- Settles O20: the completion of a sequence moves STATE as the command's own graph edge says. -/
theorem stateFollowsItsGraph : Obligations.StateFollowsItsGraph := by
  intro i s t hs hp hd h
  cases (exec_effect h).stateMove hp with
  | halted idle state err => exact .inr ⟨idle, .inl ⟨state, err⟩⟩
  | kept state _ => exact .inl state
  | completed idle state _ =>
    by_cases hr : ∃ e, s.pos = .reject e
    · obtain ⟨e, hr⟩ := hr
      obtain rfl := Host.Outcome.next.inj ((exec_of_reject i hr).symm.trans h)
      exact .inl rfl
    · have hrun := runsIn_of_sequenceOk (sequenceOk_of_consistent hs) hp (not_exists.1 hr) hd
      cases i
      case powerUp | seek | tune | rdsDecode | rdsCapture =>
        exact .inr ⟨idle, .inr (.inl ⟨state, by simp_all [runsIn]⟩)⟩
      case powerDown => exact .inr ⟨idle, .inr (.inr ⟨state, by simpa [runsIn] using hrun⟩)⟩
      all_goals exact .inl state

/-! ### RESULT -/

theorem Deed.result (h : Deed i s u) : u.result = s.result := by rw [h.rest]

theorem accept_result (w : Word) (s : State) : (accept w s).result = s.result := by
  rcases accept_cases w s with ⟨_, _, h⟩ | ⟨_, _, h⟩ <;> rw [h]

/-- RESULT is kept, or written by the completion of a reading command. -/
theorem Effect.result (h : Effect i s t) :
    t.result = s.result ∨ isReader i = true ∧ t.outcome = .ok ∧ t.pos = .idle := by
  cases h with
  | accepted _ eq => exact .inl (eq ▸ accept_result _ s)
  | raised e _ eq => exact .inl (eq ▸ rfl)
  | answered v reader eq => exact .inr (eq ▸ ⟨reader, rfl, rfl⟩)
  | readFailed m steers eq => exact .inl (eq ▸ steers.result)
  | writeFailed u prepares eq =>
    rw [eq, prepares.rest]
    exact .inl rfl
  | goesOn m u before deed after _ => exact .inl (after.result.trans (deed.result.trans before.result))
  | completes m u o before deed eq => exact .inl (eq ▸ deed.result.trans before.result)

/-- Settles O24: only a completion with a value writes RESULT, and only a reader makes one. -/
theorem resultIsWrittenOnlyByReads : Obligations.ResultIsWrittenOnlyByReads := by
  intro i s t h hne
  obtain ⟨hreader, hok, hidle⟩ := (exec_effect h).result.resolve_left hne
  refine ⟨hok, hidle, ?_⟩
  cases i <;> simp_all [isReader]

/-! ### The shadow -/

/-- What a step of command `i` does to the shadow (10_state.md R20). -/
inductive ShadowMove (i : Instr) (s t : State) : Prop where
  | kept (eq : t.x = s.x)
  | read (b : List Byte) (answer : s.env.peekRead = .bytes b) (len : b.length = 32) (holds : holdsStream t b)
  | staged (m u : State) (eqBefore : m.x = s.x) (stages : Stages m u) (eq : t.x = u.x) (stager : isStager i = true)
  | stored (idx : BitVec 4) (v : Word) (window : writableIndex idx = true) (writer : i = .shadowWr idx)
      (eq : t.x = s.x.set idx.toNat v)

theorem accept_x (w : Word) (s : State) : (accept w s).x = s.x := by
  rcases accept_cases w s with ⟨_, _, h⟩ | ⟨_, _, h⟩ <;> rw [h]

theorem Prepares.shadowMove {m : State} (h : Prepares i m u) (hm : m.x = s.x) (ht : t.x = u.x) : ShadowMove i s t := by
  rcases h with rfl | ⟨hi, hst⟩
  · exact .kept (ht.trans hm)
  · exact .staged m u hm hst ht hi

theorem Deed.shadowMove {m : State} (h : Deed i m u) (hm : m.x = s.x) (hread : m.env.peekRead = s.env.peekRead)
    (ht : t.x = u.x) : ShadowMove i s t := by
  cases h with
  | prepared _ prepares => exact prepares.shadowMove hm ht
  | read b answer len => exact .read b (hread ▸ answer) len (holdsStream_congr ht (holdsStream_afterRead b m))
  | wrote v prepares => exact prepares.shadowMove hm ht
  | stored idx v window writer => exact .stored idx v window writer (ht.trans (by rw [setReg_x, hm]))
  | decoded _ =>
    obtain ⟨acc, es, _, h⟩ := decodeBlocks_shape (m.reg 0xC) (m.reg 0xD) (m.reg 0xE) (m.reg 0xF) m
    rw [decodeStep, h] at ht
    exact .kept (ht.trans hm)
  | emitted | cleared => exact .kept (ht.trans hm)

theorem Effect.shadowMove (h : Effect i s t) : ShadowMove i s t := by
  cases h with
  | accepted _ eq => exact .kept (eq ▸ accept_x _ s)
  | raised e _ eq => exact .kept (eq ▸ rfl)
  | answered v _ eq => exact .kept (eq ▸ rfl)
  | readFailed m steers eq => exact .kept (eq ▸ steers.x)
  | writeFailed u prepares eq => exact prepares.shadowMove rfl (eq ▸ rfl)
  | goesOn m u before deed after _ => exact deed.shadowMove before.x before.peekRead after.x
  | completes m u o before deed eq => exact deed.shadowMove before.x before.peekRead (eq ▸ rfl)

theorem reg_congr {s t : State} (h : t.x = s.x) (j : BitVec 4) : t.reg j = s.reg j := by
  rw [State.reg, State.reg, h]

/-- Settles O25: a deed that moves the shadow is a read, a staging or SHADOW_WR. -/
theorem shadowIsChangedOnlyByItsWriters : Obligations.ShadowIsChangedOnlyByItsWriters := by
  intro i s t h hne
  cases (exec_effect h).shadowMove with
  | kept eq => exact absurd eq hne
  | read b answer len holds => exact .inl ⟨b, answer, len, holds⟩
  | staged m u eqBefore stages eq stager =>
    refine .inr ⟨fun j hj => ?_, by cases i <;> simp_all [isStager]⟩
    rw [reg_congr eq, stages.window j hj, reg_congr eqBefore]
  | stored idx v window writer eq =>
    refine .inr ⟨fun j hj => ?_, .inl ⟨idx, writer⟩⟩
    obtain ⟨hlo, hhi⟩ := of_decide_eq_true window
    rw [reg_congr (s := s.setReg idx v) eq, reg_setReg, if_neg]
    rintro rfl
    omega

/-- Settles O26: staging goes through field rows, whose masks miss the unnamed bits. -/
theorem unnamedBitsAreCarried : Obligations.UnnamedBitsAreCarried := by
  intro i s t hi h
  cases (exec_effect h).shadowMove with
  | kept eq => exact .inr fun j m _ => by rw [reg_congr eq]
  | read b answer len holds => exact .inl ⟨b, answer, len, holds⟩
  | staged m u eqBefore stages eq _ =>
    exact .inr fun j mask hm => by rw [reg_congr eq, stages.unnamed j mask hm, reg_congr eqBefore]
  | stored idx v _ writer _ => exact absurd writer (hi idx)

/-! ### Accumulators, identity and events of a capture -/

theorem accept_rds (w : Word) (s : State) :
    (accept w s).acc = s.acc ∧ (accept w s).ident = s.ident ∧ (accept w s).events = s.events := by
  rcases accept_cases w s with ⟨_, _, h⟩ | ⟨_, _, h⟩ <;> rw [h] <;> exact ⟨rfl, rfl, rfl⟩

/-- The accumulators and the identity are kept, with no event or one RAW event (43_rds_decoder.md R241). -/
def OnlyRaw (s t : State) : Prop :=
  t.acc = s.acc ∧ t.ident = s.ident ∧ (t.events = s.events ∨ ∃ a b c d, t.events = s.events ++ [.raw a b c d])

theorem Deed.onlyRaw (hi : isCapture i = true) (h : Deed i s u) : OnlyRaw s u := by
  cases h with
  | prepared _ prepares => rw [prepares.rest]; exact ⟨rfl, rfl, .inl rfl⟩
  | wrote v prepares => rw [prepares.rest]; exact ⟨rfl, rfl, .inl rfl⟩
  | read | stored => exact ⟨rfl, rfl, .inl rfl⟩
  | emitted a b c d => exact ⟨rfl, rfl, .inr ⟨a, b, c, d, rfl⟩⟩
  | decoded hn | cleared hn => exact absurd (hn.symm.trans hi) nofun

theorem Effect.onlyRaw (hi : isCapture i = true) (h : Effect i s t) : OnlyRaw s t := by
  cases h with
  | accepted _ eq =>
    obtain ⟨hacc, hident, hevents⟩ := accept_rds (encode i) s
    exact eq ▸ ⟨hacc, hident, .inl hevents⟩
  | raised e _ eq => exact eq ▸ ⟨rfl, rfl, .inl rfl⟩
  | answered v _ eq => exact eq ▸ ⟨rfl, rfl, .inl rfl⟩
  | readFailed m steers eq => exact eq ▸ ⟨steers.acc, steers.ident, .inl steers.events⟩
  | writeFailed u prepares eq =>
    rw [eq, prepares.rest]
    exact ⟨rfl, rfl, .inl rfl⟩
  | goesOn m u before deed after _ =>
    obtain ⟨hacc, hident, hevents⟩ := deed.onlyRaw hi
    refine ⟨after.acc.trans (hacc.trans before.acc), after.ident.trans (hident.trans before.ident), ?_⟩
    rw [after.events, ← before.events]
    exact hevents
  | completes m u o before deed eq =>
    obtain ⟨hacc, hident, hevents⟩ := deed.onlyRaw hi
    rw [eq]
    refine ⟨hacc.trans before.acc, hident.trans before.ident, ?_⟩
    rw [completeIn_events, ← before.events]
    exact hevents

/-- Settles O58: a capture makes no deed but reads and RAW events. -/
theorem rdsCaptureKeepsTextAndIdentity : Obligations.RdsCaptureKeepsTextAndIdentity := by
  intro fen gt gv s t h
  have heff := exec_effect h
  obtain ⟨hacc, hident, hevents⟩ := heff.onlyRaw rfl
  exact ⟨hacc, hident, heff.result.resolve_right nofun, hevents⟩

/-! ### The time base -/

/-- The time law's bound does not fall from `s` to `t` once it is set (60_exceptions.md R290). -/
def ClockHolds (s t : State) : Prop := ∀ c, s.env.clock = some c → ∃ c', t.env.clock = some c' ∧ c ≤ c'

theorem ClockHolds.of_eq (h : t.env.clock = s.env.clock) : ClockHolds s t := fun c hc => ⟨c, h.trans hc, le_rfl⟩

theorem ClockHolds.trans (h : ClockHolds s t) (h' : ClockHolds t u) : ClockHolds s u := fun c hc => by
  obtain ⟨c', hc', hle⟩ := h c hc
  obtain ⟨c'', hc'', hle'⟩ := h' c' hc'
  exact ⟨c'', hc'', hle.trans hle'⟩

theorem Deed.clock (h : Deed i s u) : u.env.clock = s.env.clock := by rw [h.rest]

theorem accept_env (w : Word) (s : State) : (accept w s).env = s.env := by
  rcases accept_cases w s with ⟨_, _, h⟩ | ⟨_, _, h⟩ <;> rw [h]

theorem Effect.clockHolds (h : Effect i s t) : ClockHolds s t := by
  cases h with
  | accepted _ eq => exact .of_eq (eq ▸ congrArg Env.clock (accept_env _ s))
  | raised e _ eq => exact .of_eq (eq ▸ rfl)
  | answered v _ eq => exact .of_eq (eq ▸ rfl)
  | readFailed m steers eq => exact eq ▸ steers.clock
  | writeFailed u prepares eq =>
    rw [eq, prepares.rest]
    exact .of_eq rfl
  | goesOn m u before deed after _ => exact (ClockHolds.trans before.clock (.of_eq deed.clock)).trans after.clock
  | completes m u o before deed eq => exact eq ▸ ClockHolds.trans before.clock (.of_eq deed.clock)

end

/-! ## A step of the machine -/

/-- What the step of the machine from `s` to `t` is, once the head `act` of the host's agenda is taken off. -/
inductive Acts (act : Option HostAct) (s t : State) : Prop where
  | idled (idle : s.pos = .idle) (eq : t = s)
  | reported (e : ErrCode) (pending : s.pos = .reject e) (eq : t = raise e s)
  | ran (i : Instr) (latched : decode s.cwCur = .command i) (busy : s.pos ≠ .idle) (legal : ∀ e, s.pos ≠ .reject e)
      (runs : exec i s = .next t)
  | accepted (w : Word) (idle : s.pos = .idle) (eq : t = accept w s)
  | dropped (eq : t = { s with dropped := true })
  | argWritten (v : Word) (eq : t = { s with arg := v })
  | ignored (eq : t = s)
  | portRead (off : BitVec 3) (eq : t = { s with env := { s.env with hostReads := s.env.hostReads ++ [hostRead off s] } })
  | rst (asserted : act = some .rst) (eq : t = applyRst s)

section
variable {s t : State}

theorem Acts.of_blockStep {act : Option HostAct} (h : blockStep s = .next t) : Acts act s t := by
  rcases blockStep_cases h with ⟨hp, rfl⟩ | ⟨e, hp, rfl⟩ | ⟨i, hd, hp, hr, hx⟩
  · exact .idled hp rfl
  · exact .reported e hp rfl
  · exact .ran i hd hp hr hx

theorem Acts.of_hostWrite {act : Option HostAct} (off : BitVec 3) (v : Word) : Acts act s (hostWrite off v s) := by
  unfold hostWrite
  split
  · unfold writeCmd
    split
    · exact .dropped rfl
    · next hb => exact .accepted v (pos_eq_idle_of_not_busy (Bool.eq_false_iff.2 hb)) rfl
  · exact .argWritten v rfl
  · exact .ignored rfl

theorem popAgenda_of_nil (h : s.env.agenda = []) : popAgenda s = s := by
  rw [popAgenda, h, List.tail_nil, ← h]

/-- Everything a step of the machine can be. -/
theorem step_acts (h : step s = .next t) : Acts s.env.agenda.head? (popAgenda s) t := by
  unfold step at h
  split at h
  · next ha =>
    rw [popAgenda_of_nil ha]
    exact .of_blockStep h
  · next a l ha =>
    rw [ha]
    cases a with
    | turn => exact .of_blockStep h
    | write off v =>
      obtain rfl := Host.Outcome.next.inj h
      exact .of_hostWrite off v
    | read off =>
      obtain rfl := Host.Outcome.next.inj h
      exact .portRead off rfl
    | rst =>
      obtain rfl := Host.Outcome.next.inj h
      exact .rst rfl rfl

theorem accept_bus (w : Word) (s : State) : (accept w s).bus = s.bus := (keepsDevice_accept w s).bus

/-- Settles O22: a step makes at most one deed, and a deed appends at most one entry. -/
theorem historiesOnlyGrow : Obligations.HistoriesOnlyGrow := by
  intro s t hrst h
  show HistoriesGrow (popAgenda s) t
  cases step_acts h with
  | ran i _ busy _ runs => exact (exec_effect runs).historiesGrow busy
  | accepted w _ eq =>
    obtain ⟨_, _, hevents⟩ := accept_rds w (popAgenda s)
    exact eq ▸ .of_eq (accept_bus w _) hevents
  | rst asserted _ => exact absurd asserted hrst
  | idled _ eq | reported _ _ eq | dropped eq | argWritten _ eq | ignored eq | portRead _ eq => exact eq ▸ .of_eq rfl rfl

/-- The flags that only reset clears (10_state.md R21, R36). -/
def StickyFlagsHold (s t : State) : Prop :=
  (s.shadowValid = true → t.shadowValid = true) ∧ (s.dropped = true → t.dropped = true) ∧
    (s.busErr = true → t.busErr = true)

theorem StickyFlagsHold.of_eq (hvalid : t.shadowValid = s.shadowValid) (hdropped : t.dropped = s.dropped)
    (hbus : t.busErr = s.busErr) : StickyFlagsHold s t :=
  ⟨hvalid.trans, hdropped.trans, hbus.trans⟩

theorem StateMove.busErr {i : Instr} (h : StateMove i s t) (hs : s.busErr = true) : t.busErr = true := by
  cases h with
  | halted _ _ err => exact err
  | kept _ err | completed _ _ err => exact err.trans hs

/-- Settles O23: no effect of a step clears one of them. -/
theorem onlyResetClearsTheStickyFlags : Obligations.OnlyResetClearsTheStickyFlags := by
  intro s t hrst h
  show StickyFlagsHold (popAgenda s) t
  cases step_acts h with
  | ran i _ busy _ runs =>
    have heff := exec_effect runs
    have hdropped : t.dropped = s.dropped := congrArg (·.2.2.2.1) (heff.operands busy)
    exact ⟨(exec_shadowEffect busy runs).valid_of_valid, hdropped.trans, (heff.stateMove busy).busErr⟩
  | accepted w _ eq =>
    rcases accept_cases w (popAgenda s) with ⟨_, _, ha⟩ | ⟨_, _, ha⟩ <;> rw [eq, ha] <;> exact .of_eq rfl rfl rfl
  | dropped eq => exact eq ▸ ⟨id, fun _ => rfl, id⟩
  | rst asserted _ => exact absurd asserted hrst
  | idled _ eq | reported _ _ eq | argWritten _ eq | ignored eq | portRead _ eq => exact eq ▸ .of_eq rfl rfl rfl

/-- No step lowers the time law's bound, `rst` included. -/
theorem step_clockHolds (h : step s = .next t) : ClockHolds s t := by
  show ClockHolds (popAgenda s) t
  cases step_acts h with
  | ran i _ _ _ runs => exact (exec_effect runs).clockHolds
  | accepted w _ eq => exact .of_eq (eq ▸ congrArg Env.clock (accept_env w _))
  | idled _ eq | reported _ _ eq | dropped eq | argWritten _ eq | ignored eq | portRead _ eq | rst _ eq =>
    exact eq ▸ .of_eq rfl

/-- Settles O27: `Now()` answers the bound plus a slack, and any slack can be scripted. -/
theorem nowObeysTheTimeLaw : Obligations.NowObeysTheTimeLaw := by
  refine ⟨fun s t c h hc => step_clockHolds h c hc, fun s => ⟨rfl, fun c hc => ?_⟩, fun d c s hc => ?_, fun d s hc => ?_,
    rfl, fun s m l hm => ⟨m - s.env.nowBound, ?_⟩⟩
  · simpa [Env.nowBound, hc] using nowBound_le_state_nowAnswer s
  · calc c + d = s.env.nowBound + d := by simp [Env.nowBound, hc]
      _ = (delay d s).env.nowBound := (nowBound_afterDelay d hc).symm
      _ ≤ (delay d s).nowAnswer := nowBound_le_state_nowAnswer _
  · simp [hc]
  · have hbound : s.env.nowBound ≤ m := by
      unfold Env.nowBound
      cases hc : s.env.clock with
      | none => exact Nat.zero_le m
      | some c => exact hm c hc
    exact Nat.add_sub_cancel' hbound

end

end Sys2Proof.Machine
end

section
/-! SUPPORT. The invariant `State.consistent` (10_state.md R35, R36, R48, R49; 43_rds_decoder.md R232 (5)): it holds at
reset, every step keeps it part by part, and from a state that has it no step stops the machine. -/

namespace Sys2Proof.Machine

/-! ## The parts of the invariant -/

section
variable {i : Instr} {s t u : State}

theorem consistent_iff : s.consistent = true ↔
    s.sequenceOk = true ∧ s.shadowOk = true ∧ s.haltOk = true ∧ s.psOk = true ∧ s.loopOk = true := by
  simp only [State.consistent, Bool.and_eq_true, and_assoc]

theorem haltOk_iff : s.haltOk = true ↔ (s.busErr = true ↔ s.seqState = .halted) := decide_eq_true_iff

theorem psOk_iff : s.psOk = true ↔ s.acc.ps.cur = .a ∧ s.acc.ps.bufB = TextBuf.empty 8 4 := decide_eq_true_iff

/-- The deadline starts are past `Now()` answers (10_state.md R48). -/
def DeadlinesPast (s : State) : Prop := s.t0 ≤ s.env.nowBound ∧ s.tc ≤ s.env.nowBound

theorem loopOk_iff : s.loopOk = true ↔ s.PollsBelow s.env.params.nTunePolls ∧ DeadlinesPast s := by
  rw [State.loopOk, Bool.and_eq_true, Bool.and_eq_true, decide_eq_true_iff, decide_eq_true_iff, and_assoc]
  refine and_congr_left' ?_
  unfold State.PollsBelow
  split
  · next h => simp only [h, true_or, forall_const, decide_eq_true_iff]
  · next h => simp only [h, or_true, forall_const, decide_eq_true_iff]
  · next h1 h2 => exact iff_of_true rfl fun h => (h.elim h1 h2).elim

theorem pollsBelow_of_idle {n : Nat} (h : t.pos = .idle) : t.PollsBelow n :=
  fun hp => (hp.elim (fun hp => nomatch h.symm.trans hp) fun hp => nomatch h.symm.trans hp)

/-! ## STATE and the sequence position -/

theorem sequenceOk_of_idle (hp : t.pos = .idle) (hst : t.seqState.stable = true) : t.sequenceOk = true := by
  simpa only [State.sequenceOk, hp] using hst

theorem stable_of_idle (hs : s.sequenceOk = true) (hp : s.pos = .idle) : s.seqState.stable = true := by
  simpa only [State.sequenceOk, hp] using hs

theorem stable_of_reject {e : ErrCode} (hs : s.sequenceOk = true) (hp : s.pos = .reject e) :
    s.seqState.stable = true := by
  simp only [State.sequenceOk, hp, Bool.and_eq_true] at hs
  exact hs.1

/-- A position that a command can stand at once accepted. -/
theorem sequenceOk_of_position (hd : decode t.cwCur = .command i)
    (hown : t.pos = .start ∨ ownPosition i t.pos = true) (hrun : runsIn i t.seqState = true) : t.sequenceOk = true := by
  have hidle : ownPosition i .idle = false := by cases i <;> rfl
  have hreject (e : ErrCode) : ownPosition i (.reject e) = false := by cases i <;> rfl
  unfold State.sequenceOk
  split
  · next hp => simp [hp, hidle] at hown
  · next e hp => simp [hp, hreject] at hown
  · rw [hd]
    simpa [hrun] using hown

/-- In a sound state a command with no error pending stands at a position of its own. -/
theorem position_of_sequenceOk (hs : s.sequenceOk = true) (hi : s.pos ≠ .idle) (hr : ∀ e, s.pos ≠ .reject e)
    (hd : decode s.cwCur = .command i) : s.pos = .start ∨ ownPosition i s.pos = true := by
  unfold State.sequenceOk at hs
  split at hs
  · exact absurd (by assumption) hi
  · exact absurd (by assumption) (hr _)
  · rw [hd] at hs
    simpa using (Bool.and_eq_true_iff.1 hs).1

theorem stable_completedState {st : SeqState} : runsIn i st = true → (completedState i st).stable = true := by
  cases i
  case powerUp | powerDown | seek | tune | rdsDecode | rdsCapture => exact fun _ => rfl
  all_goals
    intro h
    rcases of_decide_eq_true h with rfl | rfl <;> rfl

theorem completedState_of_simple {st : SeqState} (h : isSequence i = false) : completedState i st = st := by
  cases i
  case powerUp | powerDown | seek | tune | rdsDecode | rdsCapture => cases h
  all_goals rfl

theorem isSequence_of_isReader : isReader i = true → isSequence i = false := by
  cases i <;> simp [isReader, isSequence]

/-- A command that enters no transient state runs in a stable one. -/
theorem stable_of_simple (hi : isSequence i = false) {st : SeqState} (hrun : runsIn i st = true) : st.stable = true := by
  rw [← completedState_of_simple (st := st) hi]
  exact stable_completedState hrun

/-- The `STATE` a legal command enters is the one it runs in (60_exceptions.md R283, 42_tuning_fsm.md R170). -/
theorem runsIn_enteredState {st : SeqState} : legalIn i st = true → runsIn i (enteredState i st) = true := by
  cases i
  case powerUp | powerDown | seek | tune | rdsDecode | rdsCapture => exact fun _ => rfl
  all_goals exact id

/-! ## A step of a command -/

section
variable (hd : decode s.cwCur = .command i) (hpos : s.pos = .start ∨ ownPosition i s.pos = true)
  (hrun : runsIn i s.seqState = true) (hp : s.pos ≠ .idle) (hr : ∀ e, s.pos ≠ .reject e)

include hd hpos hrun hp hr in
theorem Effect.sequenceOk (h : Effect i s t) : t.sequenceOk = true := by
  have hops := h.operands hp
  have hcw : t.cwCur = s.cwCur := congrArg (·.1) hops
  cases h with
  | accepted idle _ => exact absurd idle hp
  | raised e simple eq => exact eq ▸ sequenceOk_of_idle rfl (stable_of_simple (simple.resolve_left (hr e)) hrun)
  | answered v reader eq => exact eq ▸ sequenceOk_of_idle rfl (stable_of_simple (isSequence_of_isReader reader) hrun)
  | readFailed m _ eq => exact eq ▸ rfl
  | writeFailed u _ eq => exact eq ▸ rfl
  | goesOn m u before deed after advances =>
    have hstate : t.seqState = s.seqState := after.seqState.trans (deed.seqState.trans before.seqState)
    exact sequenceOk_of_position (hcw ▸ hd) (.inr (advances.own hpos)) (hstate ▸ hrun)
  | completes m u o before deed eq =>
    have hstate : u.seqState = s.seqState := deed.seqState.trans before.seqState
    rw [eq]
    exact sequenceOk_of_idle rfl (stable_completedState (hstate ▸ hrun))

include hrun hp in
theorem Effect.haltOk (hs : s.haltOk = true) (h : Effect i s t) : t.haltOk = true := by
  have hnot : s.seqState ≠ .halted := fun hh => by simp [hh, runsIn_halted] at hrun
  rw [haltOk_iff] at hs ⊢
  cases h.stateMove hp with
  | halted _ state err => simp [state, err]
  | kept state err => rw [state, err]; exact hs
  | completed _ state err =>
    have hdone : completedState i s.seqState ≠ .halted := by cases i <;> simp_all [completedState]
    rw [state, err, hs]
    exact iff_of_false hnot hdone

end

/-- A segment write with flag 0 leaves the flag at 0 and buffer B alone (43_rds_decoder.md R229). -/
theorem write_a_bufB {w segs : Nat} (a : Accum w segs) (seg : Nat) (cs : List Byte) :
    (a.write .a seg cs).cur = .a ∧ (a.write .a seg cs).bufB = a.bufB :=
  ⟨write_cur a .a seg cs, write_other_buf a .a .b seg cs nofun⟩

/-- PS keeps buffer B, and has flag 0 where it had flag 0 (43_rds_decoder.md R232 (5)). -/
def KeepsPs (s t : State) : Prop :=
  (s.acc.ps.cur = .a → t.acc.ps.cur = .a) ∧ t.acc.ps.bufB = s.acc.ps.bufB

theorem KeepsPs.of_eq (h : t.acc.ps = s.acc.ps) : KeepsPs s t := ⟨fun hs => h ▸ hs, h ▸ rfl⟩

/-- Only group 0A writes PS, and with flag 0 (43_rds_decoder.md R219). -/
theorem dispatchGroup_keepsPs (a b c d : Word) (s : State) : KeepsPs s (dispatchGroup a b c d s) := by
  unfold dispatchGroup
  split
  · obtain ⟨hcur, hbuf⟩ := write_a_bufB s.acc.ps (b.extractLsb 1 0).toNat (chars2 d)
    exact ⟨fun _ => hcur, hbuf⟩
  case h_5 =>
    unfold group4A emitClock
    split <;> exact .of_eq rfl
  all_goals exact .of_eq rfl

theorem Deed.psOk (hs : s.psOk = true) (h : Deed i s u) : u.psOk = true := by
  cases h with
  | prepared _ prepares => rw [prepares.rest]; exact hs
  | wrote v prepares => rw [prepares.rest]; exact hs
  | decoded _ =>
    obtain ⟨hcur, hbuf⟩ := dispatchGroup_keepsPs (s.reg 0xC) (s.reg 0xD) (s.reg 0xE) (s.reg 0xF)
      (extractIdentity (s.reg 0xC) (s.reg 0xD) s)
    obtain ⟨hcur', hbuf'⟩ := psOk_iff.1 hs
    exact psOk_iff.2 ⟨hcur hcur', hbuf.trans hbuf'⟩
  | cleared _ => exact psOk_iff.2 ⟨rfl, rfl⟩
  | read | stored | emitted => exact hs

theorem psOk_congr (h : t.acc = s.acc) (hs : s.psOk = true) : t.psOk = true := by
  rw [psOk_iff] at hs ⊢
  rwa [h]

theorem Effect.psOk (hp : s.pos ≠ .idle) (hs : s.psOk = true) (h : Effect i s t) : t.psOk = true := by
  cases h with
  | accepted idle _ => exact absurd idle hp
  | raised e _ eq => exact eq ▸ hs
  | answered v _ eq => exact eq ▸ hs
  | readFailed m steers eq => exact eq ▸ psOk_congr steers.acc hs
  | writeFailed u prepares eq =>
    rw [eq, prepares.rest]
    exact hs
  | goesOn m u before deed after _ => exact psOk_congr after.acc (deed.psOk (psOk_congr before.acc hs))
  | completes m u o before deed eq =>
    exact psOk_congr (s := u) (by rw [eq]; rfl) (deed.psOk (psOk_congr before.acc hs))

theorem DeadlinesPast.congr (h : DeadlinesPast s) (ht0 : t.t0 = s.t0) (htc : t.tc = s.tc)
    (hclock : t.env.clock = s.env.clock) : DeadlinesPast t := by
  unfold DeadlinesPast Env.nowBound at *
  rwa [ht0, htc, hclock]

theorem Steers.deadlinesPast (h : Steers s t) (hs : DeadlinesPast s) : DeadlinesPast t := by
  obtain ⟨ht0, htc⟩ := hs
  exact ⟨h.t0.elim (fun heq => heq ▸ ht0.trans h.nowBound_le) id, h.tc.elim (fun heq => heq ▸ htc.trans h.nowBound_le) id⟩

theorem Deed.deadlinesPast (h : Deed i s u) (hs : DeadlinesPast s) : DeadlinesPast u :=
  hs.congr (by rw [h.rest]) (by rw [h.rest]) h.clock

theorem Effect.loopOk (hp : s.pos ≠ .idle) (hs : s.loopOk = true) (h : Effect i s t) : t.loopOk = true := by
  have hparams : t.env.params = s.env.params := congrArg (·.2.2.2.2.1) (h.operands hp)
  rw [loopOk_iff] at hs ⊢
  obtain ⟨hpolls, hpast⟩ := hs
  rw [hparams]
  cases h with
  | accepted idle _ => exact absurd idle hp
  | raised e _ eq => exact eq ▸ ⟨pollsBelow_of_idle rfl, hpast⟩
  | answered v _ eq => exact eq ▸ ⟨pollsBelow_of_idle rfl, hpast⟩
  | readFailed m steers eq => exact eq ▸ ⟨pollsBelow_of_idle rfl, steers.deadlinesPast hpast⟩
  | writeFailed u prepares eq =>
    rw [eq, prepares.rest]
    exact ⟨pollsBelow_of_idle rfl, hpast⟩
  | goesOn m u before deed after advances =>
    exact ⟨advances.polls hpolls, after.deadlinesPast (deed.deadlinesPast (before.deadlinesPast hpast))⟩
  | completes m u o before deed eq =>
    exact eq ▸ ⟨pollsBelow_of_idle rfl, deed.deadlinesPast (before.deadlinesPast hpast)⟩

/-! ## Acceptance -/

theorem accept_sequenceOk (w : Word) (hs : s.sequenceOk = true) (hp : s.pos = .idle) :
    (accept w s).sequenceOk = true := by
  rcases accept_cases w s with ⟨e, he, h⟩ | ⟨i, hi, h⟩ <;> rw [h]
  · simpa [State.sequenceOk, he] using stable_of_idle hs hp
  · obtain ⟨_, hd, hlegal⟩ := check_eq_ok.1 hi
    exact sequenceOk_of_position hd (.inl rfl) (runsIn_enteredState hlegal)

theorem accept_haltOk (w : Word) (hs : s.haltOk = true) : (accept w s).haltOk = true := by
  rcases accept_cases w s with ⟨e, _, h⟩ | ⟨i, hi, h⟩ <;> rw [h]
  · exact hs
  · obtain ⟨hnot, _, _⟩ := check_eq_ok.1 hi
    have hentered : enteredState i s.seqState ≠ .halted := by cases i <;> simp_all [enteredState]
    rw [haltOk_iff] at hs ⊢
    exact hs.trans (iff_of_false hnot hentered)

theorem accept_loopOk (w : Word) (hs : s.loopOk = true) : (accept w s).loopOk = true := by
  obtain ⟨_, hpast⟩ := loopOk_iff.1 hs
  rcases accept_cases w s with ⟨e, _, h⟩ | ⟨i, _, h⟩ <;> rw [h] <;>
    exact loopOk_iff.2 ⟨fun hp => hp.elim nofun nofun, hpast⟩

/-! ## A step of the machine -/

theorem reset_consistent (e : Env) : State.consistent { State.reset with env := e } = true := by
  refine consistent_iff.2 ⟨rfl, rfl, rfl, psOk_iff.2 ⟨rfl, rfl⟩, loopOk_iff.2 ⟨pollsBelow_of_idle rfl, ?_⟩⟩
  exact ⟨Nat.zero_le _, Nat.zero_le _⟩

/-- What the host does at the port does not touch what the invariant speaks of, a CMD write apart. -/
theorem Acts.consistent {act : Option HostAct} (hs : s.consistent = true) (hshadow : t.shadowOk = true)
    (h : Acts act s t) : t.consistent = true := by
  obtain ⟨hseq, hshadow', hhalt, hps, hloop⟩ := consistent_iff.1 hs
  cases h with
  | ran i latched busy legal runs =>
    have heff := exec_effect runs
    have hrun := runsIn_of_sequenceOk hseq busy legal latched
    have hpos := position_of_sequenceOk hseq busy legal latched
    exact consistent_iff.2 ⟨heff.sequenceOk latched hpos hrun busy legal, hshadow, heff.haltOk hrun busy hhalt,
      heff.psOk busy hps, heff.loopOk busy hloop⟩
  | reported e pending eq =>
    have hstable := stable_of_reject hseq pending
    obtain ⟨_, hpast⟩ := loopOk_iff.1 hloop
    subst eq
    exact consistent_iff.2 ⟨sequenceOk_of_idle rfl hstable, hshadow, hhalt, hps,
      loopOk_iff.2 ⟨pollsBelow_of_idle rfl, hpast⟩⟩
  | accepted w idle eq =>
    subst eq
    obtain ⟨hacc, _, _⟩ := accept_rds w s
    exact consistent_iff.2 ⟨accept_sequenceOk w hseq idle, hshadow, accept_haltOk w hhalt, psOk_congr hacc hps,
      accept_loopOk w hloop⟩
  | rst _ eq => exact eq ▸ reset_consistent s.env
  | idled _ eq | dropped eq | argWritten _ eq | ignored eq | portRead _ eq => exact eq ▸ hs

/-- Settles O6: reset is idle, in POWERED_DOWN, with nothing accumulated. -/
theorem resetIsConsistent : Obligations.ResetIsConsistent := reset_consistent

/-- Settles O7: taking an entry off the agenda keeps the invariant, and so does each thing a step can then be. -/
theorem everyStepKeepsConsistent : Obligations.EveryStepKeepsConsistent := by
  intro s t hs h
  obtain ⟨hseq, hshadow, _, _, _⟩ := consistent_iff.1 hs
  have hpop : (popAgenda s).consistent = true := hs
  exact (step_acts h).consistent hpop (step_keeps_shadowOk hseq hshadow h)

/-! ## No step stops -/

/-- A position of the tune sequence is one of its four (42_tuning_fsm.md R175). -/
theorem tuneSeqPosition_cases {p : SeqPos} (h : tuneSeqPosition p = true) :
    p = .tunePoll ∨ p = .tuneDelay ∨ (∃ o, p = .tuneExit o) ∨ ∃ o, p = .exitDone o := by
  cases p <;> simp_all [tuneSeqPosition]

/-- So is one of SEEK (42_tuning_fsm.md R173, R176). -/
theorem seekPosition_cases {mode up : BitVec 1} {p : SeqPos} (h : ownPosition (.seek mode up) p = true) :
    p = .seekPoll ∨ p = .seekDelay ∨ (∃ o, p = .seekExit o) ∨ ∃ o, p = .exitDone o := by
  cases p <;> simp_all [ownPosition]

/-- At its start and at the positions of its own every command has a next step. -/
theorem exec_next_of_position (hpos : s.pos = .start ∨ ownPosition i s.pos = true) : ∃ t, exec i s = .next t := by
  rcases hpos with hp | hown
  · cases i <;>
      simp only [exec, execNop, execReadAll, execWriteCfg, execShadowRd, execShadowWr, execFieldGet, execFieldSet,
        execFieldExtract, execPowerUp, execPowerDown, execSeek, execTune, execRdsDecode, execRdsCapture, execRdsReset,
        execAccRd, execAccRecv, execAccCur, execIdRd, hp] <;>
      exact ⟨_, rfl⟩
  · cases i
    case readAll | writeCfg =>
      simp only [exec, execReadAll, execWriteCfg, of_decide_eq_true hown]
      exact ⟨_, rfl⟩
    case fieldGet =>
      simp only [exec, execFieldGet, of_decide_eq_true hown]
      exact ⟨_, rfl⟩
    case powerDown =>
      rcases of_decide_eq_true hown with hp | hp <;> simp only [exec, execPowerDown, hp] <;> exact ⟨_, rfl⟩
    case powerUp =>
      rcases Bool.or_eq_true_iff.1 hown with hfirst | htune
      · rcases of_decide_eq_true hfirst with hp | hp | hp | hp | hp <;> simp only [exec, execPowerUp, hp] <;>
          exact ⟨_, rfl⟩
      · rcases tuneSeqPosition_cases htune with hp | hp | ⟨o, hp⟩ | ⟨o, hp⟩ <;> simp only [exec, execPowerUp, hp] <;>
          exact ⟨_, rfl⟩
    case tune =>
      rcases tuneSeqPosition_cases hown with hp | hp | ⟨o, hp⟩ | ⟨o, hp⟩ <;> simp only [exec, execTune, hp] <;>
        exact ⟨_, rfl⟩
    case seek =>
      rcases seekPosition_cases hown with hp | hp | ⟨o, hp⟩ | ⟨o, hp⟩ <;> simp only [exec, execSeek, hp] <;>
        exact ⟨_, rfl⟩
    case rdsDecode =>
      rcases of_decide_eq_true hown with hp | hp | hp | hp | hp <;> simp only [exec, execRdsDecode, hp] <;>
        exact ⟨_, rfl⟩
    case rdsCapture =>
      rcases of_decide_eq_true hown with hp | hp | hp | hp | hp <;> simp only [exec, execRdsCapture, hp] <;>
        exact ⟨_, rfl⟩
    all_goals cases hown

/-- A turn of the block in a sound state idles, reports, or runs a command at a position of its own. -/
theorem blockStep_next (hseq : s.sequenceOk = true) : ∃ t, blockStep s = .next t := by
  by_cases hi : s.pos = .idle
  · exact ⟨_, blockStep_of_idle hi⟩
  by_cases hr : ∃ e, s.pos = .reject e
  · obtain ⟨e, hr⟩ := hr
    exact ⟨_, blockStep_of_reject hr⟩
  have hbusy : s.busy = true := decide_eq_true hi
  cases hd : decode s.cwCur with
  | command i =>
    rw [blockStep, if_pos hbusy, hd]
    exact exec_next_of_position (position_of_sequenceOk hseq hi (not_exists.1 hr) hd)
  | rejected e =>
    unfold State.sequenceOk at hseq
    split at hseq
    · exact absurd (by assumption) hi
    · exact absurd ⟨_, by assumption⟩ hr
    · rw [hd] at hseq
      cases hseq

/-- Settles O8: the host's actions always have a next state, and a turn of a sound state has one. -/
theorem consistentStatesNeverStop : Obligations.ConsistentStatesNeverStop := by
  intro s hs
  have hseq := sequenceOk_of_consistent hs
  unfold step
  split
  · exact blockStep_next hseq
  · next a _ _ =>
    cases a with
    | turn => exact blockStep_next (s := popAgenda s) hseq
    | write | read | rst => exact ⟨_, rfl⟩

end

end Sys2Proof.Machine
end

section
/-! SUPPORT. The host port (10_state.md R36 to R41, 92_eei_decisions.md D2): the fields of STAT, what the host's accesses do,
and acceptance with its checks (60_exceptions.md R283, R284). -/

namespace Sys2Proof.Machine

/-! ## STAT -/

/-- Settles O16: each bit of STAT comes from one field, the others being out of its reach there. -/
theorem statShowsItsFields : Obligations.StatShowsItsFields := by
  refine ⟨fun s => ⟨?busy, ?state, ?outcome, ?zero, ?dropped, ?busErr, rfl⟩, rfl, rfl, rfl, rfl, rfl, rfl, rfl, rfl, rfl, rfl,
    rfl, rfl, rfl, rfl, rfl, rfl, rfl, rfl, rfl, rfl, fun o s => ⟨rfl, rfl⟩⟩
  case busy => simp [State.stat]
  case dropped => simp [State.stat]
  case busErr => simp [State.stat]
  case state =>
    apply BitVec.eq_of_getLsbD_eq
    intro k hk
    interval_cases k <;> simp [State.stat]
  case outcome =>
    apply BitVec.eq_of_getLsbD_eq
    intro k hk
    interval_cases k <;> simp [State.stat]
  case zero =>
    apply BitVec.eq_of_getLsbD_eq
    intro k hk
    interval_cases k <;> simp [State.stat]

/-! ## Accesses -/

section
variable {s : State}

theorem step_of_nil (h : s.env.agenda = []) : step s = blockStep s := by
  rw [step, h]

/-- Settles O18: an empty agenda leaves the turn to the block, which has nothing to run. -/
theorem idleBlockWaits : Obligations.IdleBlockWaits := by
  intro s hp ha
  rw [step_of_nil ha, blockStep_of_idle hp]

theorem blockStep_of_command {i : Instr} (hp : s.pos ≠ .idle) (hd : decode s.cwCur = .command i) :
    blockStep s = exec i s := by
  rw [blockStep, if_pos (show s.busy = true from decide_eq_true hp), hd]

/-- Settles O10: the turn goes to the command that the latched word decodes to. -/
theorem stepRunsTheLatchedCommand : Obligations.StepRunsTheLatchedCommand := by
  intro s i hp hd
  refine ⟨fun ha => ?_, fun r ha => ?_⟩
  · rw [step_of_nil ha, blockStep_of_command hp hd]
  · rw [step_of_cons ha]
    exact blockStep_of_command (s := { s with env := { s.env with agenda := r } }) hp hd

theorem hostRead_high (off : BitVec 3) (h : 5 ≤ off.toNat) (s : State) : hostRead off s = 0 := by
  unfold hostRead
  split
  case h_6 => rfl
  all_goals omega

theorem hostWrite_high (off : BitVec 3) (v : Word) (h : 2 ≤ off.toNat) (s : State) : hostWrite off v s = s := by
  unfold hostWrite
  split
  case h_3 => rfl
  all_goals omega

/-- Settles O17: each offset is a case of the host access. -/
theorem hostPortAccesses : Obligations.HostPortAccesses := by
  intro s r
  refine ⟨fun off ha => step_of_cons ha, fun v ha => step_of_cons ha, fun off v hoff ha => ?_, rfl, rfl, rfl,
    fun off hoff => hostRead_high off hoff s⟩
  rw [step_of_cons ha]
  exact congrArg _ (hostWrite_high off v hoff _)

/-! ## Acceptance -/

/-- A CMD write with BUSY = 0 is the acceptance of its word (R38). -/
theorem step_writeCmd_idle {w : Word} {r : List HostAct} (ha : s.env.agenda = .write 0 w :: r) (hb : s.busy = false) :
    step s = .next (accept w { s with env := { s.env with agenda := r } }) := by
  rw [step_of_cons ha]
  show Host.Outcome.next (if s.busy then _ else _) = _
  rw [hb]
  rfl

theorem step_writeCmd_busy {w : Word} {r : List HostAct} (ha : s.env.agenda = .write 0 w :: r) (hb : s.busy = true) :
    step s = .next { s with dropped := true, env := { s.env with agenda := r } } := by
  rw [step_of_cons ha]
  show Host.Outcome.next (if s.busy then _ else _) = _
  rw [hb]
  rfl

/-- Acceptance latches the word and ARG and moves the position and STATE; nothing else (R38). -/
theorem accept_rest (w : Word) (s : State) :
    accept w s = { s with cwCur := w, argCur := s.arg, pos := (accept w s).pos, seqState := (accept w s).seqState } := by
  rcases accept_cases w s with ⟨_, _, h⟩ | ⟨_, _, h⟩ <;> rw [h]

theorem accept_of_error {w : Word} {e : ErrCode} (h : check w s.seqState = .error e) :
    accept w s = { s with cwCur := w, argCur := s.arg, pos := .reject e } := by
  rw [accept, h]

theorem accept_of_ok {w : Word} {i : Instr} (h : check w s.seqState = .ok i) :
    accept w s = { s with cwCur := w, argCur := s.arg, pos := .start, seqState := enteredState i s.seqState } := by
  rw [accept, h]

/-- Settles O11: acceptance with BUSY = 0, the drop with BUSY = 1. -/
theorem commandWriteIsLatchedOrDropped : Obligations.CommandWriteIsLatchedOrDropped := by
  refine ⟨fun s w r ha => ⟨fun hb => ?_, step_writeCmd_busy ha⟩, fun s => rfl, rfl⟩
  have hrest := accept_rest w { s with env := { s.env with agenda := r } }
  refine ⟨_, step_writeCmd_idle ha hb, ?_, ?_, decide_eq_true (accept_pos_ne_idle w _), hrest⟩
  · rw [hrest]
  · rw [hrest]

/-- Settles O13: the rejected command stands at `reject`, and its next step is the report. -/
theorem rejectedCommandOnlyReportsItsError : Obligations.RejectedCommandOnlyReportsItsError := by
  intro s w e ha hb he
  have hfirst := step_writeCmd_idle ha hb
  rw [accept_of_error (s := { s with env := { s.env with agenda := [] } }) he] at hfirst
  refine ⟨_, _, hfirst, (step_of_nil rfl).trans (blockStep_of_reject rfl), ?_⟩
  rw [pos_eq_idle_of_not_busy hb]
  rfl

/-! ## The checks, in their order -/

/-- What acceptance leaves at the position and STATE: the pending error, or the command at its start. -/
theorem accept_pos_of_error {w : Word} {e : ErrCode} (h : check w s.seqState = .error e) :
    (accept w s).pos = .reject e ∧ (accept w s).seqState = s.seqState := by
  rw [accept_of_error h]
  exact ⟨rfl, rfl⟩

theorem accept_pos_of_ok {w : Word} {i : Instr} (h : check w s.seqState = .ok i) :
    (accept w s).pos = .start ∧ (accept w s).seqState = enteredState i s.seqState := by
  rw [accept_of_ok h]
  exact ⟨rfl, rfl⟩

theorem check_command {w : Word} {i : Instr} {st : SeqState} (hst : st ≠ .halted) (hd : decode w = .command i) :
    check w st = if legalIn i st then .ok i else .error .illegalState := by
  rw [check, if_neg hst, hd]

/-- A command that `legalIn` allows starts in its own STATE; any other is rejected with E_ILLEGAL_STATE. -/
theorem accept_pos_of_command {w : Word} {i : Instr} (hst : s.seqState ≠ .halted) (hd : decode w = .command i) :
    (legalIn i s.seqState = true → (accept w s).pos = .start ∧ (accept w s).seqState = enteredState i s.seqState) ∧
    (legalIn i s.seqState = false → (accept w s).pos = .reject .illegalState ∧ (accept w s).seqState = s.seqState) := by
  have hcheck := check_command hst hd
  exact ⟨fun hl => accept_pos_of_ok (by rw [hcheck, hl]; rfl), fun hl => accept_pos_of_error (by rw [hcheck, hl]; rfl)⟩

/-- The commands with no STATE of their own are legal in POWERED_DOWN and READY and stay there (R283). -/
theorem legalIn_simple {i : Instr} (hi : isSequence i = false) (st : SeqState) :
    legalIn i st = decide (st = .poweredDown ∨ st = .ready) ∧ enteredState i st = st := by
  cases i
  case powerUp | powerDown | seek | tune | rdsDecode | rdsCapture => cases hi
  all_goals exact ⟨rfl, rfl⟩

/-- Settles O12: the checks of `check`, then the STATE the command enters. -/
theorem acceptanceChecksInOrder : Obligations.AcceptanceChecksInOrder := by
  intro s w r ha hb
  refine ⟨_, step_writeCmd_idle ha hb, fun hh => ?_, fun hh => ⟨fun hd => ?_, fun hd => ?_, fun i hd => ?_⟩⟩
  · rw [accept_halted (s := { s with env := { s.env with agenda := r } }) w hh]
    exact ⟨rfl, hh⟩
  · exact accept_pos_of_error (by rw [check, if_neg hh, hd])
  · exact accept_pos_of_error (by rw [check, if_neg hh, hd])
  obtain ⟨hok, hbad⟩ := accept_pos_of_command (s := { s with env := { s.env with agenda := r } }) hh hd
  refine ⟨?_, ?_, ?_⟩
  · rintro rfl
    split
    · next hst => exact hok (decide_eq_true hst)
    · next hst => exact hbad (decide_eq_false hst)
  · intro hi
    split
    · next hst =>
      rcases hi with rfl | ⟨m, u, rfl⟩ | rfl | rfl | ⟨f, g, v, rfl⟩ <;>
        obtain ⟨hpos, hstate⟩ := hok (decide_eq_true hst) <;>
        exact ⟨hpos, by simp [hstate, enteredState]⟩
    · next hst =>
      rcases hi with rfl | ⟨m, u, rfl⟩ | rfl | rfl | ⟨f, g, v, rfl⟩ <;> exact hbad (decide_eq_false hst)
  · intro hi
    have hsimple : isSequence i = false := by cases i <;> simp_all [isSequence]
    obtain ⟨hlegal, hentered⟩ := legalIn_simple hsimple s.seqState
    split
    · next hst =>
      obtain ⟨hpos, hstate⟩ := hok (hlegal.trans (decide_eq_true hst))
      exact ⟨hstate.trans hentered, hpos⟩
    · next hst =>
      obtain ⟨hpos, hstate⟩ := hbad (hlegal.trans (decide_eq_false hst))
      exact ⟨hstate, hpos⟩

end

end Sys2Proof.Machine
end

section
/-! SUPPORT. The commands of one step (40_transactions.md R120 to R124, 41_field_decoder.md R151 to R153,
43_rds_decoder.md R242 to R246), with FIELD_GET: the values they read, and the bits they write. -/

namespace Sys2Proof.Machine

/-! ## Extract and insert on the rows of the field table -/

section
variable {f : FieldRow}

/-- The mask of a row, bit by bit (R140). -/
theorem FieldRow.WellFormed.getLsbD_mask (hf : f.WellFormed) {k : Nat} (hk : k < 16) :
    f.mask.getLsbD k = decide (f.offset ≤ k ∧ k < f.offset + f.width) := by
  obtain ⟨hfit, hmask⟩ := hf
  rw [hmask, BitVec.getLsbD_shiftLeft, BitVec.getLsbD_setWidth, BitVec.getLsbD_allOnes]
  grind

/-- Extract gives the field as a number (R141). -/
theorem FieldRow.WellFormed.toNat_get (hf : f.WellFormed) (v : Word) :
    (f.get v).toNat = v.toNat / 2 ^ f.offset % 2 ^ f.width := by
  apply Nat.eq_of_testBit_eq
  intro k
  rw [Nat.testBit_mod_two_pow, Nat.testBit_div_two_pow, BitVec.testBit_toNat, BitVec.testBit_toNat, FieldRow.get,
    BitVec.getLsbD_ushiftRight, BitVec.getLsbD_and]
  by_cases hk : f.offset + k < 16
  · rw [hf.getLsbD_mask hk]
    grind
  · have hout : v.getLsbD (f.offset + k) = false := BitVec.getLsbD_of_ge v _ (not_lt.1 hk)
    simp [hout, Nat.add_comm k]

/-- Insert replaces the field's bits and no other (R141). -/
theorem FieldRow.WellFormed.getLsbD_set (hf : f.WellFormed) (v a : Word) {k : Nat} (hk : k < 16) :
    (f.set v a).getLsbD k =
      if f.offset ≤ k ∧ k < f.offset + f.width then a.getLsbD (k - f.offset) else v.getLsbD k := by
  simp only [FieldRow.set, BitVec.getLsbD_or, BitVec.getLsbD_and, BitVec.getLsbD_not, BitVec.getLsbD_shiftLeft,
    hf.getLsbD_mask hk]
  grind

end

/-! ## Field ids -/

section
variable {fid : BitVec 6}

theorem fieldTable_getElem? (h : fid.toNat < 48) : fieldTable[fid.toNat]? = some (fieldRow fid) := by
  have hlen : fid.toNat < fieldTable.length := h
  rw [fieldRow, List.getD_eq_getElem?_getD, List.getElem?_eq_getElem hlen, Option.getD_some]

theorem fieldRow_mem (h : fid.toNat < 48) : fieldRow fid ∈ fieldTable :=
  List.mem_of_getElem? (fieldTable_getElem? h)

/-- The model's row of a field id is the spec's (R140). -/
theorem fieldPlaces_getElem? (h : fid.toNat < 48) :
    fieldPlaces[fid.toNat]? = some ((fieldRow fid).reg, (fieldRow fid).offset, (fieldRow fid).width) := by
  rw [← fieldTable_places, List.getElem?_map, fieldTable_getElem? h, Option.map_some]

theorem fieldRow_wellFormed (h : fid.toNat < 48) : (fieldRow fid).WellFormed :=
  wellFormed_of_mem_fieldTable _ (fieldRow_mem h)

theorem toNat_lt_48_or_eq (h : fid.toNat ≤ 48) : fid.toNat < 48 ∨ fid = 48 := by
  rcases Nat.lt_or_eq_of_le h with hlt | heq
  · exact .inl hlt
  · exact .inr (BitVec.eq_of_toNat_eq heq)

theorem fidReg_eq (h : fid.toNat ≤ 48) : fidReg fid = (fieldRow fid).reg := by
  rcases toNat_lt_48_or_eq h with hlt | rfl
  · simp only [fidReg, fieldPlaces_getElem? hlt]
  · rfl

/-- The value of a known field id: its bits, and for READFREQ the channel as a frequency (R140, R146). -/
theorem fieldValue_eq (h : fid.toNat ≤ 48) (v : Word) : fieldValue fid v = BitVec.ofNat 16 (fidBits fid v) := by
  rcases toNat_lt_48_or_eq h with hlt | rfl
  · have hne : fid ≠ 48 := fun heq => absurd (heq ▸ hlt) (by decide)
    rw [fieldValue, if_neg hne]
    simp only [fidBits, fieldPlaces_getElem? hlt]
    rw [← (fieldRow_wellFormed hlt).toNat_get, BitVec.ofNat_toNat, BitVec.setWidth_eq]
  · have hchannel : (fieldRow 48).WellFormed := wellFormed_of_mem_fieldTable Field.channel (by decide)
    have hget : (fieldRow 48).get v = BitVec.ofNat 16 (v.toNat % 1024) := by
      apply BitVec.eq_of_toNat_eq
      rw [hchannel.toNat_get, BitVec.toNat_ofNat]
      show v.toNat / 2 ^ 0 % 2 ^ 10 = v.toNat % 1024 % 2 ^ 16
      omega
    rw [fieldValue, if_pos rfl, hget]
    exact (BitVec.ofNat_add _ 875).symm

theorem knownFid_eq_true (h : fid.toNat ≤ 48) : knownFid fid = true := decide_eq_true h

end

/-! ## Register transaction commands -/

section
variable {s : State}

/-- Settles O28: NOP's one step. -/
theorem nopCompletesOk : Obligations.NopCompletesOk := fun _ hp => exec_nop_start hp

/-- Settles O31: SHADOW_RD's one step, by whether the shadow is valid. -/
theorem shadowRdGivesTheRegister : Obligations.ShadowRdGivesTheRegister := by
  intro idx s hp
  rw [exec_shadowRd_start hp]
  refine ⟨fun hv => congrArg _ (if_pos hv), fun hv => ?_⟩
  exact ⟨_, congrArg _ (if_neg (Bool.eq_false_iff.1 hv)), reports_raise .notSynced s⟩

theorem writableIndex_eq_true {idx : BitVec 4} : writableIndex idx = true ↔ 2 ≤ idx.toNat ∧ idx.toNat ≤ 7 :=
  decide_eq_true_iff

/-- Settles O32: the index check, the shadow check, then one register of the window. -/
theorem shadowWrWritesTheWindowOnly : Obligations.ShadowWrWritesTheWindowOnly := by
  intro idx s hp
  have hfirst := exec_shadowWr_start hp idx
  refine ⟨fun hidx => ?_, fun hidx hv => ?_, fun hidx hv => ?_⟩
  · have hw : writableIndex idx = false := decide_eq_false (by omega)
    rw [hw, if_pos (by simp)] at hfirst
    exact ⟨_, hfirst, reports_raise .badIndex s⟩
  · rw [writableIndex_eq_true.2 hidx, if_neg (by simp), if_pos (by simp [hv])] at hfirst
    exact ⟨_, hfirst, reports_raise .notSynced s⟩
  · rw [writableIndex_eq_true.2 hidx, if_neg (by simp), if_neg (by simp [hv])] at hfirst
    refine ⟨_, hfirst, reg_setReg_self s idx s.argCur, fun j hj => ?_, rfl⟩
    exact (reg_setReg s idx j s.argCur).trans (if_neg hj.symm)

/-! ## Field commands -/

section
variable {fid : BitVec 6}

theorem exec_fieldGet_unknown (hp : s.pos = .start) (h : 48 < fid.toNat) :
    exec (.fieldGet fid) s = .next (raise .badIndex s) := by
  have hk : knownFid fid = false := decide_eq_false (not_le.2 h)
  simp [exec, execFieldGet, hp, hk]

/-- A field that is not fresh comes from the shadow (R151). -/
theorem exec_fieldGet_staged (hp : s.pos = .start) (h : fid.toNat < 36) :
    exec (.fieldGet fid) s = .next (if !s.shadowValid then raise .notSynced s
      else completeWith (fieldValue fid (s.reg (fieldRow fid).reg)) s) := by
  have hk : knownFid fid = true := decide_eq_true (by omega)
  have hf : freshFid fid = false := decide_eq_false (by omega)
  simp [exec, execFieldGet, hp, hk, hf]

theorem exec_fieldGet_fieldRead (hp : s.pos = .fieldRead) :
    exec (.fieldGet fid) s = .next (completeWith (fieldValue fid (s.reg (fieldRow fid).reg)) s) := by
  simp only [exec, execFieldGet, hp]

/-- The read value of a known field id, as the completion shows it. -/
theorem completeWith_fieldValue (h : fid.toNat ≤ 48) (s : State) :
    completeWith (fieldValue fid (s.reg (fieldRow fid).reg)) s =
      { s with result := BitVec.ofNat 16 (fidBits fid (s.reg (fidReg fid))), outcome := .ok, pos := .idle } := by
  rw [fieldValue_eq h, fidReg_eq h]
  rfl

/-- Settles O35: the index check, then the shadow or the fresh read, and the row of the FID gives the bits. -/
theorem fieldGetGivesTheField : Obligations.FieldGetGivesTheField := by
  intro fid s hp
  refine ⟨fun h => ?unknown, fun h hv => ?unsynced, fun h hv => ?staged, fun hlo hhi b hread hlen => ?fresh⟩
  case unknown => exact ⟨_, exec_fieldGet_unknown hp h, reports_raise .badIndex s⟩
  case unsynced =>
    rw [exec_fieldGet_staged hp h, if_pos (by simp [hv])]
    exact ⟨_, rfl, reports_raise .notSynced s⟩
  case staged =>
    rw [exec_fieldGet_staged hp h, if_neg (by simp [hv]), completeWith_fieldValue (by omega)]
  case fresh =>
    have hfirst : exec (.fieldGet fid) s = .next (goto .fieldRead (afterRead b s)) := by
      rw [exec_fieldGet_fresh hp hlo hhi, readAll_ok _ hread hlen]
    refine ⟨_, hfirst, holdsStream_afterRead b s, readBytes_afterRead b s, rfl, ?_⟩
    rw [exec_fieldGet_fieldRead rfl]
    exact congrArg _ (completeWith_fieldValue hhi _)

/-- Settles O36: the checks in their order, then the row's insert. -/
theorem fieldSetReplacesTheFieldBits : Obligations.FieldSetReplacesTheFieldBits := by
  intro fid s hp
  have hfirst := exec_fieldSet_start hp fid
  refine ⟨fun hfid => ?_, fun r lo w hlo hhi hplace => ?_⟩
  · have hw : writableFid fid = false := decide_eq_false (by omega)
    rw [hw, if_pos (by simp)] at hfirst
    exact ⟨_, hfirst, reports_raise .badIndex s⟩
  have hknown : fid.toNat < 48 := by omega
  have hw : writableFid fid = true := decide_eq_true ⟨hlo, hhi⟩
  obtain ⟨rfl, rfl, rfl⟩ : (fieldRow fid).reg = r ∧ (fieldRow fid).offset = lo ∧ (fieldRow fid).width = w := by
    simpa using (fieldPlaces_getElem? hknown).symm.trans hplace
  rw [hw, if_neg (by simp)] at hfirst
  refine ⟨fun hbig => ?_, fun hfits hv => ?_, fun hfits hv => ?_⟩
  · rw [if_pos hbig] at hfirst
    exact ⟨_, hfirst, reports_raise .badValue s⟩
  · rw [if_neg (not_le.2 hfits), if_pos (by simp [hv])] at hfirst
    exact ⟨_, hfirst, reports_raise .notSynced s⟩
  · rw [if_neg (not_le.2 hfits), if_neg (by simp [hv])] at hfirst
    refine ⟨_, hfirst, rfl, fun j hj => ?_, fun k hk => ?_⟩
    · exact (reg_setField s (fieldRow fid) s.argCur j).trans (if_neg hj.symm)
    · have hreg : (s.setField (fieldRow fid) s.argCur).reg (fieldRow fid).reg =
          (fieldRow fid).set (s.reg (fieldRow fid).reg) s.argCur := reg_setReg_self s _ _
      exact (congrArg (·.getLsbD k) hreg).trans ((fieldRow_wellFormed hknown).getLsbD_set _ _ hk)

/-- The all-one word has every field all ones (R153). -/
theorem fieldPlaces_allOnes : ∀ p ∈ fieldPlaces, 65535 / 2 ^ p.2.1 % 2 ^ p.2.2 = 2 ^ p.2.2 - 1 := by decide

/-- Settles O37: the pure field decoder on ARG, by the row of the FID. -/
theorem fieldExtractDecodesArg : Obligations.FieldExtractDecodesArg := by
  intro fid s hp
  rw [exec_fieldExtract_start hp]
  refine ⟨fun h => ?_, fun h => ?_, fun r lo w hplace => ⟨?_, ?_⟩, rfl, rfl⟩
  · have hk : knownFid fid = false := decide_eq_false (not_le.2 h)
    rw [hk]
    exact ⟨_, rfl, reports_raise .badIndex s⟩
  · rw [knownFid_eq_true h, fieldValue_eq h]
    rfl
  · simp [fidBits, hplace]
  · simp only [fidBits, hplace]
    exact fieldPlaces_allOnes _ (List.mem_of_getElem? hplace)

end

/-! ## RDS_RESET and the reads of accumulators and identity -/

/-- Settles O50: every accumulator and the identity read as empty after the reset. -/
theorem rdsResetClearsTextAndIdentity : Obligations.RdsResetClearsTextAndIdentity := by
  intro s hp
  have hcleared : (complete .ok (resetAccumulators s)).acc = .empty := rfl
  exact ⟨_, exec_rdsReset_start hp, slotOf_of_acc_empty hcleared, recvOf_of_acc_empty hcleared,
    curFlagOf_of_acc_empty hcleared, rfl, rfl⟩

/-- A slot as a word: its flag above its character (R243). -/
theorem Slot.word_eq (t : Slot) : t.word = BitVec.ofNat 16 (t.set.toNat * 256 + t.ch.toNat) := by
  apply BitVec.eq_of_toNat_eq
  have hch := t.ch.isLt
  have hor := Nat.two_pow_add_eq_or_of_lt hch t.set.toNat
  cases hset : t.set <;> simp_all [Slot.word]

/-- INFO as a word: id_valid, TP and PTY at their places (R246). -/
theorem Identity.info_eq (d : Identity) :
    d.info = BitVec.ofNat 16 (d.valid.toNat * 2 ^ 15 + d.tp.toNat * 2 ^ 5 + d.pty.toNat) := by
  apply BitVec.eq_of_toNat_eq
  have hpty := d.pty.isLt
  have hmod : d.pty.toNat % 65536 = d.pty.toNat := by omega
  have hor := Nat.two_pow_add_eq_or_of_lt hpty (d.valid.toNat * 2 ^ 10 + d.tp.toNat)
  rcases BitVec.eq_zero_or_eq_one d.tp with htp | htp <;> cases hvalid : d.valid <;>
    simp_all [Identity.info]

/-- A received marker beyond the accumulator's segments reads 0 (R244). -/
theorem getLsbD_recv_beyond {w segs : Nat} (t : TextBuf w segs) {k : Nat} (h : segs ≤ k) :
    (t.recv.setWidth 16).getLsbD k = false := by
  rw [BitVec.getLsbD_setWidth, BitVec.getLsbD_of_ge _ _ h, Bool.and_false]

theorem recvOf_beyond (s : State) (acc : AccId) (buf : BufId) {k : Nat} (h : segmentCount acc ≤ k) :
    (s.recvOf acc buf).getLsbD k = false := by
  cases acc <;> exact getLsbD_recv_beyond _ h

theorem bufBit_setWidth (f : BufId) : (bufBit f).setWidth 16 = if f = .b then 1 else 0 := by
  cases f <;> rfl

theorem accWidth_eq_textWidth (acc : AccId) : accWidth acc = textWidth acc := by cases acc <;> rfl

/-- Settles O60: one step of each reader, and the words it forms. -/
theorem textAndIdentityReads : Obligations.TextAndIdentityReads := by
  intro acc buf slot s hp
  rw [exec_accRd_start hp, exec_accRecv_start hp, exec_accCur_start hp, exec_idRd_pi_start hp, exec_idRd_info_start hp,
    accWidth_eq_textWidth, Slot.word_eq, bufBit_setWidth, Identity.info_eq]
  refine ⟨fun h => ?_, fun h => ?_, rfl, fun k hk => recvOf_beyond s acc buf hk, rfl, rfl, rfl⟩
  · rw [if_pos h]
    exact ⟨_, rfl, reports_raise .badIndex s⟩
  · rw [if_neg (not_le.2 h)]
    rfl

end

end Sys2Proof.Machine
end

section
/-! SUPPORT. The tuning and seek sequences on answered transactions (42_tuning_fsm.md R171 to R179): what a staged write
and a poll leave, and the sequences step by step. -/

namespace Sys2Proof.Machine

/-! ## A staged write that is answered -/

section
variable {i : Instr} {s t u : State} {p : SeqPos}

/-- What a staged write leaves once it is answered: the bytes of the staged registers on the bus, the position `p`, and
nothing else moved (20_memory.md R61, R63). -/
structure WroteTo (p : SeqPos) (s u t : State) : Prop where
  rest : t = { s with x := t.x, bus := t.bus, env := s.env.popWrite, pos := p }
  sent : wroteConfig s t
  x : t.x = u.x

theorem wroteConfig_of_stages (hu : Stages s u) (hx : t.x = u.x) (hbus : t.bus = (afterWrite u).bus) :
    wroteConfig s t := by
  rw [wroteConfig, hbus, configBytes_congr hx, hu.rest]
  rfl

theorem peekWrite_of_stages (hu : Stages s u) : u.env.peekWrite = s.env.peekWrite := by
  rw [hu.rest]
  rfl

theorem writeCfg_of_stages (hu : Stages s u) (hw : s.env.peekWrite = .ok) (k : State → State) :
    writeCfg k u = k (afterWrite u) :=
  writeCfg_ok k ((peekWrite_of_stages hu).trans hw)

theorem wroteTo_of_stages (hu : Stages s u) : WroteTo p s u (goto p (afterWrite u)) where
  rest := by
    rw [hu.rest]
    rfl
  sent := wroteConfig_of_stages hu rfl rfl
  x := rfl

/-- A step that stages, writes and goes on to `p`. -/
theorem exec_wroteTo (hexec : exec i s = .next (writeCfg (goto p) u)) (hu : Stages s u) (hw : s.env.peekWrite = .ok) :
    ∃ t, exec i s = .next t ∧ WroteTo p s u t :=
  ⟨_, hexec.trans (congrArg _ (writeCfg_of_stages hu hw _)), wroteTo_of_stages hu⟩

end

/-! ## Insert on whole words -/

/-- Inserting 0 clears the field (R141). -/
theorem FieldRow.set_zero (f : FieldRow) (v : Word) : f.set v 0 = v &&& ~~~f.mask := by
  simp [FieldRow.set]

section
variable (s : State)

/-- Clearing SEEK or TUNE in the word last read (42_tuning_fsm.md R179). -/
theorem clearSeek_reg (j : BitVec 4) : (s.setField Field.seek 0).reg j = if j = 2 then s.reg 2 &&& 0xFEFF else s.reg j := by
  rw [reg_setField, FieldRow.set_zero]
  by_cases hj : j = 2
  · subst hj; rfl
  · rw [if_neg (show ¬ Field.seek.reg = j from Ne.symm hj), if_neg hj]

theorem clearTune_reg (j : BitVec 4) : (s.setField Field.tune 0).reg j = if j = 3 then s.reg 3 &&& 0x7FFF else s.reg j := by
  rw [reg_setField, FieldRow.set_zero]
  by_cases hj : j = 3
  · subst hj; rfl
  · rw [if_neg (show ¬ Field.tune.reg = j from Ne.symm hj), if_neg hj]

end

/-! ## The trigger-clear exit -/

section
variable {s : State} {o : OutcomeCode}

/-- The exit write of SEEK sends the word last read with the trigger cleared (R173, R179). -/
theorem exec_seekExit_ok (mode up : BitVec 1) (hp : s.pos = .seekExit o) (hw : s.env.peekWrite = .ok) :
    ∃ t, exec (.seek mode up) s = .next t ∧ WroteTo (.exitDone o) s (s.setField Field.seek 0) t :=
  exec_wroteTo (exec_seek_seekExit hp) (Stages.refl s).andField hw

theorem exec_tuneExit_ok {i : Instr} (hi : i = .tune ∨ i = .powerUp) (hp : s.pos = .tuneExit o)
    (hw : s.env.peekWrite = .ok) :
    ∃ t, exec i s = .next t ∧ WroteTo (.exitDone o) s (s.setField Field.tune 0) t :=
  exec_wroteTo (exec_tuneExit hi hp) (Stages.refl s).andField hw

theorem WroteTo.clearSeek {t : State} {p : SeqPos} (h : WroteTo p s (s.setField Field.seek 0) t) :
    t.reg 2 = s.reg 2 &&& 0xFEFF ∧ ∀ j : BitVec 4, j ≠ 2 → t.reg j = s.reg j :=
  ⟨(reg_congr h.x 2).trans (clearSeek_reg s 2), fun j hj => (reg_congr h.x j).trans ((clearSeek_reg s j).trans (if_neg hj))⟩

theorem WroteTo.clearTune {t : State} {p : SeqPos} (h : WroteTo p s (s.setField Field.tune 0) t) :
    t.reg 3 = s.reg 3 &&& 0x7FFF ∧ ∀ j : BitVec 4, j ≠ 3 → t.reg j = s.reg j :=
  ⟨(reg_congr h.x 3).trans (clearTune_reg s 3), fun j hj => (reg_congr h.x j).trans ((clearTune_reg s j).trans (if_neg hj))⟩

theorem exec_exitDone {mode up : BitVec 1} {i : Instr} (hi : i = .seek mode up ∨ i = .tune ∨ i = .powerUp)
    (hp : s.pos = .exitDone o) : exec i s = .next (exitDoneStep o s) := by
  rcases hi with rfl | hi
  · exact exec_seek_exitDone hp
  · exact exec_tune_exitDone hi hp

theorem exec_rdsDecode_finish (hp : s.pos = .finish o) : exec .rdsDecode s = .next (completeIn .ready o s) := by
  simp only [exec, execRdsDecode, hp]

/-- Settles O45: the exit write by register, then the completion step of each command. -/
theorem triggersAreClearedOnExit : Obligations.TriggersAreClearedOnExit := by
  intro mode up o s
  refine ⟨fun hw => ⟨fun hp => ?_, fun hp => ?_⟩, fun hp => ?_, fun hp i hi => exec_exitDone hi hp,
    fun hp => exec_rdsDecode_finish hp⟩
  · obtain ⟨t, hexec, hwrote⟩ := exec_seekExit_ok mode up hp hw
    exact ⟨t, hexec, hwrote.sent, hwrote.clearSeek.1, hwrote.clearSeek.2, hwrote.rest⟩
  · obtain ⟨t, hexec, hwrote⟩ := exec_tuneExit_ok (.inl rfl) hp hw
    exact ⟨t, hexec, hwrote.sent, hwrote.clearTune.1, hwrote.clearTune.2, hwrote.rest⟩
  · rw [exec_tuneExit (.inr rfl) hp, exec_tuneExit (.inl rfl) hp]

end

/-! ## Polls -/

section
variable {s t : State} {b : List Byte}

theorem Steers.outcome (h : Steers s t) : t.outcome = s.outcome := (congrArg State.outcome h.rest :)

theorem Steers.errCmd (h : Steers s t) : t.errCmd = s.errCmd := (congrArg State.errCmd h.rest :)

theorem Steers.shadowValid (h : Steers s t) : t.shadowValid = s.shadowValid := (congrArg State.shadowValid h.rest :)

/-- A poll read leaves what `polled` says when its exit test only steers and leaves the deadline starts. -/
theorem polled_of_steers (h : Steers (afterRead b s) t) (ht0 : t.t0 = s.t0) (htc : t.tc = s.tc) : polled s t b := by
  have hhost : keepsHostPort s t := by
    simp [keepsHostPort, h.cwCur, h.argCur, h.arg, h.result, h.errCmd, h.dropped, h.busErr, h.events, h.params, h.agenda,
      h.hostReads]
  have hstate : t.acc = s.acc ∧ t.ident = s.ident ∧ t.seqState = s.seqState ∧ t.outcome = s.outcome := by
    simp [h.acc, h.ident, h.seqState, h.outcome]
  obtain ⟨hacc, hident, hseq, hout⟩ := hstate
  exact ⟨holdsStream_congr h.x (holdsStream_afterRead b s), h.bus.trans (afterRead_bus b s), h.shadowValid, hhost, hacc,
    hident, hseq, hout, ht0, htc⟩

/-- The loop state an exit test leaves: the deadline starts, and the poll counter at `n`. -/
def LeavesLoop (n : Nat) (s t : State) : Prop := t.t0 = s.t0 ∧ t.tc = s.tc ∧ t.polls = n

/-- Where the seek loop goes (R176). -/
theorem seekTest_next (s : State) : LeavesLoop s.polls s (seekTest s) ∧ (seekTest s).pos =
    if s.stc then .seekExit s.pollOutcome
    else if s.t0 + s.env.params.tSeekMs ≤ s.nowAnswer then .seekExit s.pollOutcome else .seekDelay := by
  rcases seekTest_cases s with ⟨hstc, h⟩ | ⟨hstc, hover, h⟩ | ⟨hstc, hleft, h⟩ <;> rw [h, hstc]
  · exact ⟨⟨rfl, rfl, rfl⟩, rfl⟩
  · exact ⟨⟨rfl, rfl, rfl⟩, (if_pos hover).symm⟩
  · exact ⟨⟨rfl, rfl, rfl⟩, (if_neg (not_le.2 hleft)).symm⟩

/-- Where the tune loop goes (R175). -/
theorem tuneTest_next (s : State) : LeavesLoop (s.polls + 1) s (tuneTest s) ∧ (tuneTest s).pos =
    if s.stc ∨ s.sfbl ∨ s.polls + 1 = s.env.params.nTunePolls then .tuneExit s.pollOutcome else .tuneDelay := by
  rcases tuneTest_cases s with ⟨hends, h⟩ | ⟨hmore, h⟩ <;> rw [h]
  · exact ⟨⟨rfl, rfl, rfl⟩, (if_pos hends).symm⟩
  · exact ⟨⟨rfl, rfl, rfl⟩, (if_neg hmore).symm⟩

/-- Where a fetch loop goes, with what follows a group and a timeout only moving the position (43_rds_decoder.md R210). -/
theorem fetchTest_next {group none : State → State} (s : State)
    (hg : ∀ s, ∃ p, group s = goto p s) (hn : ∀ s, ∃ p, none s = goto p s) :
    LeavesLoop s.polls s (fetchTest group none s) ∧ (fetchTest group none s).pos =
      if s.rdsr then (group s).pos
      else if s.t0 + s.env.params.tRdsMs ≤ s.nowAnswer then (none s.tickNow).pos else .fetchDelay := by
  rcases fetchTest_cases group none s with ⟨hrdsr, h⟩ | ⟨hrdsr, hover, h⟩ | ⟨hrdsr, hleft, h⟩ <;> rw [h, hrdsr]
  · obtain ⟨p, hp⟩ := hg s
    rw [hp]
    exact ⟨⟨rfl, rfl, rfl⟩, rfl⟩
  · obtain ⟨p, hp⟩ := hn s.tickNow
    rw [hp]
    exact ⟨⟨rfl, rfl, rfl⟩, (if_pos hover).symm⟩
  · exact ⟨⟨rfl, rfl, rfl⟩, (if_neg (not_le.2 hleft)).symm⟩

theorem captureGroup_goto (fen : Bool) (gt : BitVec 4) (gv : GroupVer) (s : State) :
    ∃ p, captureGroup fen gt gv s = goto p s := by
  rcases captureGroup_cases fen gt gv s with ⟨_, h⟩ | ⟨_, h⟩ <;> exact ⟨_, h⟩

/-- The classification of the status just read, by its two bits (R178). -/
theorem pollOutcome_afterRead (b : List Byte) (s : State) : (afterRead b s).pollOutcome =
    if (b.getD 0 0).getLsbD 5 then .notFound else if (b.getD 0 0).getLsbD 6 then .ok else .hwTimeout := by
  obtain ⟨_, hstc, hsfbl⟩ := flags_afterRead b s
  rw [State.pollOutcome, hstc, hsfbl]
  cases (b.getD 0 0).getLsbD 5 <;> cases (b.getD 0 0).getLsbD 6 <;> rfl

theorem append_eq_append_iff {n m : Nat} {a c : BitVec n} {b d : BitVec m} : a ++ b = c ++ d ↔ a = c ∧ b = d := by
  refine ⟨fun h => ?_, fun ⟨ha, hb⟩ => ha ▸ hb ▸ rfl⟩
  have hbit (k : Nat) := congrArg (·.getLsbD k) h
  simp only [BitVec.getLsbD_append] at hbit
  constructor <;> apply BitVec.eq_of_getLsbD_eq <;> intro k hk
  · simpa using hbit (k + m)
  · simpa only [hk, if_true] using hbit k

/-- Type and version are the top five bits of block B (30_encoding.md R98). -/
theorem extract_class_eq_iff (w : Word) (gt : BitVec 4) (v : BitVec 1) :
    w.extractLsb 15 11 = gt ++ v ↔ w.extractLsb 15 12 = gt ∧ w.extractLsb 11 11 = v := by
  have hclass : w.extractLsb 15 11 = w.extractLsb 15 12 ++ w.extractLsb 11 11 :=
    (BitVec.extractLsb'_append_extractLsb'_eq_extractLsb' rfl).symm
  rw [hclass]
  exact append_eq_append_iff

/-- The filter lets a group pass when it is off or the class is the wanted one (43_rds_decoder.md R241). -/
theorem captureMatches_iff (fen : Bool) (gt : BitVec 4) (gv : GroupVer) (w : Word) :
    captureMatches fen gt gv w = true ↔ fen = false ∨ w.extractLsb 15 11 = gt ++ (if gv = .a then 0#1 else 1#1) := by
  have hver : verBit gv = if gv = .a then 0#1 else 1#1 := by cases gv <;> rfl
  rw [captureMatches, ← hver, extract_class_eq_iff]
  simp

theorem captureGroup_pos (fen : Bool) (gt : BitVec 4) (gv : GroupVer) (s : State) : (captureGroup fen gt gv s).pos =
    if fen = false ∨ (s.reg 0xD).extractLsb 15 11 = gt ++ (if gv = .a then 0#1 else 1#1) then .captureEmit
    else .captureDelay := by
  rcases captureGroup_cases fen gt gv s with ⟨hmatch, h⟩ | ⟨hmatch, h⟩ <;> rw [h]
  · exact (if_pos ((captureMatches_iff fen gt gv _).1 hmatch)).symm
  · exact (if_neg fun hc => Bool.eq_false_iff.1 hmatch ((captureMatches_iff fen gt gv _).2 hc)).symm

@[simp] theorem afterRead_nowAnswer (b : List Byte) (s : State) : (afterRead b s).nowAnswer = s.nowAnswer := rfl

theorem LeavesLoop.of_afterRead {n : Nat} (h : LeavesLoop n (afterRead b s) t) : LeavesLoop n s t := by
  simpa only [LeavesLoop, afterRead_t0, afterRead_tc] using h

/-! ### The poll steps of the four loops -/

theorem exec_rdsDecode_fetchPoll (hp : s.pos = .fetchPoll) :
    exec .rdsDecode s = .next (fetchPollStep decodeNext decodeTimeout s) := by
  simp only [exec, execRdsDecode, hp]

theorem exec_rdsDecode_start (hp : s.pos = .start) :
    exec .rdsDecode s = .next (fetchPollStep decodeNext decodeTimeout (sampleT0 s)) := by
  simp only [exec, execRdsDecode, hp, fetchStart]

theorem exec_rdsDecode_fetchDelay (hp : s.pos = .fetchDelay) : exec .rdsDecode s = .next (fetchDelayStep s) := by
  simp only [exec, execRdsDecode, hp]

section
variable {fen : Bool} {gt : BitVec 4} {gv : GroupVer}

theorem exec_rdsCapture_fetchPoll (hp : s.pos = .fetchPoll) :
    exec (.rdsCapture fen gt gv) s = .next (fetchPollStep (captureGroup fen gt gv) captureNone s) := by
  simp only [exec, execRdsCapture, hp]

theorem exec_rdsCapture_fetchDelay (hp : s.pos = .fetchDelay) :
    exec (.rdsCapture fen gt gv) s = .next (fetchDelayStep s) := by
  simp only [exec, execRdsCapture, hp]

end

theorem exec_tuneDelay {i : Instr} (hi : i = .tune ∨ i = .powerUp) (hp : s.pos = .tuneDelay) :
    exec i s = .next (tuneDelayStep s) := by
  rcases hi with rfl | rfl
  · simp only [exec, execTune, hp]
  · simp only [exec, execPowerUp, hp]

theorem exec_seek_seekDelay {mode up : BitVec 1} (hp : s.pos = .seekDelay) :
    exec (.seek mode up) s = .next (seekDelayStep s) := by
  simp only [exec, execSeek, hp]

section
variable (hread : s.env.peekRead = .bytes b) (hlen : b.length = 32)
include hread hlen

/-- A seek poll of any 32 bytes (R176). -/
theorem seekPoll_of_bytes : ∃ t, seekPollStep s = t ∧ polled s t b ∧ t.polls = s.polls ∧
    t.pos = if (b.getD 0 0).getLsbD 6 then .seekExit (if (b.getD 0 0).getLsbD 5 then .notFound else .ok)
      else if s.t0 + s.env.params.tSeekMs ≤ s.nowAnswer then
        .seekExit (if (b.getD 0 0).getLsbD 5 then .notFound else .hwTimeout)
      else .seekDelay := by
  obtain ⟨hloop, hpos⟩ := seekTest_next (afterRead b s)
  simp only [afterRead_polls, afterRead_t0, afterRead_env, popRead_params, afterRead_nowAnswer] at hloop hpos
  obtain ⟨ht0, htc, hpolls⟩ := hloop.of_afterRead
  obtain ⟨_, hstc, _⟩ := flags_afterRead b s
  refine ⟨_, readAll_ok _ hread hlen, polled_of_steers (Steers.seekTest _) ht0 htc, hpolls, hpos.trans ?_⟩
  rw [hstc, pollOutcome_afterRead]
  cases (b.getD 0 0).getLsbD 6 <;> simp

/-- A tune poll of any 32 bytes (R175). -/
theorem tunePoll_of_bytes : ∃ t, tunePollStep s = t ∧ polled s t b ∧ t.polls = s.polls + 1 ∧
    t.pos = if (b.getD 0 0).getLsbD 5 then .tuneExit .notFound else if (b.getD 0 0).getLsbD 6 then .tuneExit .ok
      else if s.polls + 1 = s.env.params.nTunePolls then .tuneExit .hwTimeout else .tuneDelay := by
  obtain ⟨hloop, hpos⟩ := tuneTest_next (afterRead b s)
  simp only [afterRead_polls, afterRead_env, popRead_params] at hloop hpos
  obtain ⟨ht0, htc, hpolls⟩ := hloop.of_afterRead
  obtain ⟨_, hstc, hsfbl⟩ := flags_afterRead b s
  refine ⟨_, readAll_ok _ hread hlen, polled_of_steers (Steers.tuneTest _) ht0 htc, hpolls, hpos.trans ?_⟩
  rw [hstc, hsfbl, pollOutcome_afterRead]
  cases (b.getD 0 0).getLsbD 6 <;> cases (b.getD 0 0).getLsbD 5 <;> simp

/-- A fetch poll of any 32 bytes, with what follows a group and a timeout only moving the position
(43_rds_decoder.md R210). -/
theorem fetchPoll_of_bytes {group none : State → State} (hg : ∀ s, ∃ p, group s = goto p s)
    (hn : ∀ s, ∃ p, none s = goto p s) :
    ∃ t, fetchPollStep group none s = t ∧ polled s t b ∧ t.polls = s.polls ∧
      t.pos = if (b.getD 0 0).getLsbD 7 then (group (afterRead b s)).pos
        else if s.t0 + s.env.params.tRdsMs ≤ s.nowAnswer then (none (afterRead b s).tickNow).pos else .fetchDelay := by
  obtain ⟨hloop, hpos⟩ := fetchTest_next (afterRead b s) hg hn
  simp only [afterRead_polls, afterRead_t0, afterRead_env, popRead_params, afterRead_nowAnswer] at hloop hpos
  obtain ⟨ht0, htc, hpolls⟩ := hloop.of_afterRead
  obtain ⟨hrdsr, _, _⟩ := flags_afterRead b s
  have hsteers : Steers (afterRead b s) (fetchTest group none (afterRead b s)) :=
    Steers.fetchTest (fun u => by obtain ⟨p, hp⟩ := hg u; exact hp ▸ .goto p u)
      (fun u => by obtain ⟨p, hp⟩ := hn u; exact hp ▸ .goto p u) _
  refine ⟨_, readAll_ok _ hread hlen, polled_of_steers hsteers ht0 htc, hpolls, ?_⟩
  rw [hpos, hrdsr]
  congr

/-- The same for RDS_CAPTURE, whose filter looks at block B of the read (R241). -/
theorem captureFetchPoll_of_bytes (fen : Bool) (gt : BitVec 4) (gv : GroupVer) :
    ∃ t, fetchPollStep (captureGroup fen gt gv) captureNone s = t ∧ polled s t b ∧ t.polls = s.polls ∧
      t.pos = if (b.getD 0 0).getLsbD 7 then
          (if fen = false ∨ (t.reg 0xD).extractLsb 15 11 = gt ++ (if gv = .a then 0#1 else 1#1) then .captureEmit
            else .captureDelay)
        else if s.t0 + s.env.params.tRdsMs ≤ s.nowAnswer then .captureTest else .fetchDelay := by
  obtain ⟨t, ht, hpolled, hpolls, hpos⟩ := fetchPoll_of_bytes hread hlen (captureGroup_goto fen gt gv)
    (none := captureNone) (fun s => ⟨_, rfl⟩)
  have hx : t.x = (afterRead b s).x := by
    rw [← ht, fetchPollStep, readAll_ok _ hread hlen]
    exact (Steers.fetchTest (.captureGroup fen gt gv) (.goto .captureTest) _).x
  rw [captureGroup_pos, ← reg_congr hx] at hpos
  exact ⟨t, ht, hpolled, hpolls, hpos⟩

end

theorem goto_delay_eq_waited (d : Nat) (p : SeqPos) (s : State) : goto p (delay d s) = waited d p s := rfl

/-- Settles O44: one poll lemma for each loop, and the delay steps. -/
theorem pollLoopsTestStatusThenBound : Obligations.PollLoopsTestStatusThenBound := by
  intro mode up fen gt gv s
  refine ⟨fun b hread hlen => ⟨fun hp => ?seek, fun hp => ?tune, fun hp => ?decode, fun hp => ?capture⟩, ?powerUp,
    fun hp => ?start, fun hp => exec_seek_seekDelay hp, fun hp => exec_tuneDelay (.inl rfl) hp,
    fun hp => ⟨exec_rdsDecode_fetchDelay hp, ?captureDelay⟩⟩
  case seek =>
    obtain ⟨t, ht, hrest⟩ := seekPoll_of_bytes hread hlen
    exact ⟨t, ht ▸ exec_seek_seekPoll hp, hrest⟩
  case tune =>
    obtain ⟨t, ht, hrest⟩ := tunePoll_of_bytes hread hlen
    exact ⟨t, ht ▸ exec_tunePoll (.inl rfl) hp, hrest⟩
  case decode =>
    obtain ⟨t, ht, hrest⟩ := fetchPoll_of_bytes hread hlen (group := decodeNext) (none := decodeTimeout)
      (fun s => ⟨_, rfl⟩) (fun s => ⟨_, rfl⟩)
    exact ⟨t, ht ▸ exec_rdsDecode_fetchPoll hp, hrest⟩
  case capture =>
    obtain ⟨t, ht, hrest⟩ := captureFetchPoll_of_bytes hread hlen fen gt gv
    exact ⟨t, ht ▸ exec_rdsCapture_fetchPoll hp, hrest⟩
  case powerUp =>
    rintro (hp | hp)
    · rw [exec_tunePoll (.inr rfl) hp, exec_tunePoll (.inl rfl) hp]
    · rw [exec_tuneDelay (.inr rfl) hp, exec_tuneDelay (.inl rfl) hp]
  case start =>
    have hpos := fetchPollStep_withPos decodeNext decodeTimeout (sampleT0 s) .fetchPoll (fun _ _ => rfl) (fun _ _ => rfl)
    rw [exec_rdsDecode_start hp, exec_rdsDecode_fetchPoll rfl, ← hpos]
    rfl
  case captureDelay => rw [exec_rdsCapture_fetchDelay hp, exec_rdsDecode_fetchDelay hp]

end

end Sys2Proof.Machine
end

section
/-! SUPPORT. The sequences from start to end (42_tuning_fsm.md R171 to R175): the registers each one stages, and its run on
answered transactions with the loop ended by the first poll. -/

namespace Sys2Proof.Machine

/-! ## The registers that are staged -/

section
variable (s : State)

/-- The registers POWER_DOWN stages, bit by bit (R172). -/
theorem stagePowerDown_regs :
    (stagePowerDown s).reg 2 = (s.reg 2 &&& 0xBFFF) ||| 0x0041 ∧ (stagePowerDown s).reg 4 = s.reg 4 &&& 0xFFC0 ∧
      (stagePowerDown s).reg 7 = s.reg 7 ||| 0x4000 ∧
      ∀ j : BitVec 4, j ≠ 2 → j ≠ 4 → j ≠ 7 → (stagePowerDown s).reg j = s.reg j := by
  refine ⟨?_, ?_, ?_, fun j h2 h4 h7 => ?frame⟩
  case frame =>
    have hne : ¬ 2#4 = j ∧ ¬ 4#4 = j ∧ ¬ 7#4 = j := ⟨h2.symm, h4.symm, h7.symm⟩
    simp [stagePowerDown, reg_setField, Field.ahizen, Field.gpio1, Field.gpio2, Field.gpio3, Field.dmute, Field.enable,
      Field.disable, hne]
  all_goals
    simp only [stagePowerDown, reg_setField, FieldRow.set, Field.ahizen, Field.gpio1, Field.gpio2, Field.gpio3,
      Field.dmute, Field.enable, Field.disable]
    apply BitVec.eq_of_getLsbD_eq
    intro k hk
    interval_cases k <;> simp

/-- The registers POWER_UP stages before its second write, bit by bit (R171). -/
theorem stagePowerUp_regs :
    (stagePowerUp s).reg 2 = (s.reg 2 &&& 0xFFBF) ||| 0x4001 ∧
      (stagePowerUp s).reg 4 = (s.reg 4 &&& 0xE7FF) ||| 0x1000 ||| s.env.params.deDefault.setWidth 16 <<< 11 ∧
      (stagePowerUp s).reg 5 = (s.reg 5 &&& 0x00CF) ||| s.env.params.seekthDefault.setWidth 16 <<< 8 |||
        s.env.params.spaceDefault.setWidth 16 <<< 4 ∧
      (stagePowerUp s).reg 6 = (s.reg 6 &&& 0xFF00) ||| s.env.params.sksnrDefault.setWidth 16 <<< 4 |||
        s.env.params.skcntDefault.setWidth 16 ∧
      ∀ j : BitVec 4, j ≠ 2 → j ≠ 4 → j ≠ 5 → j ≠ 6 → (stagePowerUp s).reg j = s.reg j := by
  refine ⟨?_, ?_, ?_, ?_, fun j h2 h4 h5 h6 => ?frame⟩
  case frame =>
    have hne : ¬ 2#4 = j ∧ ¬ 4#4 = j ∧ ¬ 5#4 = j ∧ ¬ 6#4 = j := ⟨h2.symm, h4.symm, h5.symm, h6.symm⟩
    simp [stagePowerUp, reg_setField, Field.dmute, Field.rds, Field.de, Field.space, Field.seekth, Field.sksnr,
      Field.skcnt, Field.enable, Field.disable, hne]
  all_goals
    simp only [stagePowerUp, reg_setField, FieldRow.set, Field.dmute, Field.rds, Field.de, Field.space, Field.seekth,
      Field.sksnr, Field.skcnt, Field.enable, Field.disable]
    apply BitVec.eq_of_getLsbD_eq
    intro k hk
    interval_cases k <;> simp

/-- XOSCEN as POWER_UP stages it before its first write (R171). -/
theorem stageXoscen_regs : (s.setField Field.xoscen 1).reg 7 = s.reg 7 ||| 0x8000 ∧
    ∀ j : BitVec 4, j ≠ 7 → (s.setField Field.xoscen 1).reg j = s.reg j := by
  refine ⟨?_, fun j hj => ?_⟩
  · simp only [reg_setField, FieldRow.set, Field.xoscen]
    apply BitVec.eq_of_getLsbD_eq
    intro k hk
    interval_cases k <;> simp
  · rw [reg_setField, if_neg (show ¬ Field.xoscen.reg = j from hj.symm)]

/-- The register SEEK stages before its trigger write, bit by bit (R173). -/
theorem stageSeek_regs (mode up : BitVec 1) :
    (∀ k < 16, ((stageSeek mode up s).reg 2).getLsbD k =
      if k = 10 then mode.getLsbD 0 else if k = 9 then up.getLsbD 0 else if k = 8 then true
      else (s.reg 2).getLsbD k) ∧
    ∀ j : BitVec 4, j ≠ 2 → (stageSeek mode up s).reg j = s.reg j := by
  refine ⟨fun k hk => ?_, fun j hj => ?_⟩
  · simp only [stageSeek, reg_setField, FieldRow.set, Field.skmode, Field.seekup, Field.seek]
    interval_cases k <;> simp
  · have hne : ¬ 2#4 = j := hj.symm
    simp [stageSeek, reg_setField, Field.skmode, Field.seekup, Field.seek, hne]

/-- A channel number has the ten bits of CHAN (41_field_decoder.md R147). -/
theorem chanWord_toNat (f : Word) : (BitVec.ofNat 16 (freqToChan f)).toNat = freqToChan f := by
  have hle := freqToChan_le f
  rw [BitVec.toNat_ofNat]
  omega

theorem chanWord_and (f : Word) : BitVec.ofNat 16 (freqToChan f) &&& 0x3FF#16 = BitVec.ofNat 16 (freqToChan f) := by
  have hle := freqToChan_le f
  apply BitVec.eq_of_toNat_eq
  rw [BitVec.toNat_and, chanWord_toNat]
  exact (Nat.and_two_pow_sub_one_eq_mod _ 10).trans (by omega)

/-- The register TuneSeq stages before its trigger write (R175). -/
theorem stageTune_regs (f : Word) :
    (stageTune f s).reg 3 = (s.reg 3 &&& 0x7C00) ||| 0x8000 ||| BitVec.ofNat 16 (freqToChan f) ∧
    ∀ j : BitVec 4, j ≠ 3 → (stageTune f s).reg j = s.reg j := by
  refine ⟨?_, fun j hj => ?_⟩
  · rw [← chanWord_and]
    simp only [stageTune, reg_setField, FieldRow.set, Field.chan, Field.tune]
    apply BitVec.eq_of_getLsbD_eq
    intro k hk
    interval_cases k <;> simp
  · have hne : ¬ 3#4 = j := hj.symm
    simp [stageTune, reg_setField, Field.chan, Field.tune, hne]

/-- CHAN after TuneSeq's staging is the clamped frequency's channel (R147, R175). -/
theorem stageTune_chan (f : Word) :
    ((stageTune f s).reg 3).toNat % 1024 = min (max f.toNat 875) 1080 - 875 := by
  have hmem : Field.chan ∈ fieldTable ∧ Field.tune ∈ fieldTable := by decide
  have hchan := wellFormed_of_mem_fieldTable _ hmem.1
  have hreg : (stageTune f s).reg 3 = Field.tune.set (Field.chan.set (s.reg 3) (BitVec.ofNat 16 (freqToChan f))) 1 := by
    simp [stageTune, reg_setField, Field.chan, Field.tune]
  have hfits : (BitVec.ofNat 16 (freqToChan f)).toNat < 2 ^ Field.chan.width :=
    (chanWord_toNat f).trans_lt ((freqToChan_le f).trans_lt (by decide))
  calc ((stageTune f s).reg 3).toNat % 1024
      = (Field.chan.get ((stageTune f s).reg 3)).toNat := by
        rw [hchan.toNat_get]
        exact congrArg (· % 1024) (Nat.div_one _).symm
    _ = freqToChan f := by
        rw [hreg, FieldRow.get_set_of_disjoint (by decide), FieldRow.get_set hchan _ hfits, chanWord_toNat]
    _ = min (max f.toNat 875) 1080 - 875 := rfl

/-- TUNE is set, and the unnamed bits between CHAN and TUNE stay (R175). -/
theorem stageTune_high (f : Word) : ((stageTune f s).reg 3).getLsbD 15 = true ∧
    ∀ k, 10 ≤ k → k < 15 → ((stageTune f s).reg 3).getLsbD k = (s.reg 3).getLsbD k := by
  rw [(stageTune_regs s f).1, ← chanWord_and]
  refine ⟨by simp, fun k hlo hhi => ?_⟩
  interval_cases k <;> simp

end

/-! ## POWER_DOWN -/

section
variable {s : State}

theorem exec_powerDown_start (hp : s.pos = .start) :
    exec .powerDown s = .next (writeCfg (goto .powerDownDelay) (stagePowerDown s)) := by
  simp only [exec, execPowerDown, hp]

theorem exec_powerDown_delay (hp : s.pos = .powerDownDelay) :
    exec .powerDown s = .next (waited s.env.params.tPwrdnMs (.finish .ok) s) := by
  simp only [exec, execPowerDown, hp, goto_delay_eq_waited]

theorem exec_powerDown_finish {o : OutcomeCode} (hp : s.pos = .finish o) :
    exec .powerDown s = .next (completeIn .poweredDown o s) := by
  simp only [exec, execPowerDown, hp]

/-- The state of a step that is known up to its shadow and bus history. -/
theorem WroteTo.exists_eq {p : SeqPos} {u t : State} (h : WroteTo p s u t) :
    ∃ x bus, t = { s with x := x, bus := bus, env := s.env.popWrite, pos := p } := ⟨_, _, h.rest⟩

/-- Settles O41: the answered write, then two steps that the state fixes. -/
theorem powerDownRunsToPoweredDown : Obligations.PowerDownRunsToPoweredDown := by
  intro s hp hw
  obtain ⟨h2, h4, h7, hframe⟩ := stagePowerDown_regs s
  obtain ⟨t1, hexec, hwrote⟩ := exec_wroteTo (exec_powerDown_start hp) (.powerDown s) hw
  have hsent := hwrote.sent
  have hreg := reg_congr hwrote.x
  obtain ⟨x, bus, rfl⟩ := hwrote.exists_eq
  exact ⟨_, _, _, hexec, exec_powerDown_delay rfl, exec_powerDown_finish rfl, hsent, rfl, rfl, rfl, rfl, rfl, rfl,
    ⟨rfl, rfl, rfl, rfl, rfl, rfl, rfl, rfl, rfl, rfl, rfl⟩, rfl, rfl, rfl, rfl, hsent, (hreg 2).trans h2,
    (hreg 4).trans h4, (hreg 7).trans h7, fun j hj2 hj4 hj7 => (hreg j).trans (hframe j hj2 hj4 hj7)⟩

end

/-! ## The end of a loop that its first poll leaves -/

section
variable {s t t1 t2 t3 : State} {b : List Byte}

/-- The outcome of a loop that a poll ends before its bound (R178). -/
def polledOutcome (b : List Byte) : OutcomeCode := if (b.getD 0 0).getLsbD 5 then .notFound else .ok

/-- What an answered read leaves before the sequence goes on to `p`. -/
structure ReadTo (p : SeqPos) (b : List Byte) (s t : State) : Prop where
  rest : t = { s with
    x := t.x, shadowValid := true, bus := t.bus, polls := t.polls, env := s.env.popRead, pos := p }
  bytes : readBytes s t b
  stream : holdsStream t b

theorem readTo_goto (p : SeqPos) (b : List Byte) (s : State) : ReadTo p b s (goto p (afterRead b s)) where
  rest := rfl
  bytes := readBytes_afterRead b s
  stream := holdsStream_congr rfl (holdsStream_afterRead b s)

theorem ReadTo.exists_eq {p : SeqPos} (h : ReadTo p b s t) : ∃ x bus n, t = { s with
    x := x, shadowValid := true, bus := bus, polls := n, env := s.env.popRead, pos := p } := ⟨_, _, _, h.rest⟩

namespace ReadTo

variable {p : SeqPos}

theorem env (h : ReadTo p b s t) : t.env = s.env.popRead := (congrArg State.env h.rest :)

theorem pos (h : ReadTo p b s t) : t.pos = p := (congrArg State.pos h.rest :)

theorem host (h : ReadTo p b s t) : keepsHostPort s t := by
  rw [h.rest]
  exact ⟨rfl, rfl, rfl, rfl, rfl, rfl, rfl, rfl, rfl, rfl, rfl⟩

end ReadTo

namespace WroteTo

variable {p : SeqPos} {u : State}

theorem env (h : WroteTo p s u t) : t.env = s.env.popWrite := (congrArg State.env h.rest :)

theorem pos (h : WroteTo p s u t) : t.pos = p := (congrArg State.pos h.rest :)

theorem host (h : WroteTo p s u t) : keepsHostPort s t := by
  rw [h.rest]
  exact ⟨rfl, rfl, rfl, rfl, rfl, rfl, rfl, rfl, rfl, rfl, rfl⟩

end WroteTo

/-- A delay step moves the position and the bound of the next `Now()`. -/
theorem waited_facts {d : Nat} {p : SeqPos} (h : waited d p s = t) : t.pos = p ∧
    t.env = { s.env with clock := s.env.clock.map (· + d) } ∧ keepsHostPort s t := by
  subst h
  exact ⟨rfl, rfl, rfl, rfl, rfl, rfl, rfl, rfl, rfl, rfl, rfl, rfl, rfl⟩

/-- The last three steps of SEEK, TUNE and POWER_UP: the poll read, the trigger-clear write, the completion in READY
(R179). -/
structure ClosesLoop (trigger : FieldRow) (b : List Byte) (s t2 t3 t : State) : Prop where
  bytes : readBytes s t2 b
  stream : holdsStream t2 b
  sent : wroteConfig t2 t3
  x : t3.x = (t2.setField trigger 0).x
  params : t2.env.params = s.env.params
  done : t = { t3 with
    acc := AccFile.empty, ident := Identity.empty, seqState := .ready, outcome := polledOutcome b, pos := .idle }
  host : keepsHostPort s t
  synced : t.shadowValid = true
  clock : t.env.clock = s.env.clock

theorem ReadTo.closesLoop {p q : SeqPos} {trigger : FieldRow} (h2 : ReadTo p b s t2)
    (h3 : WroteTo q t2 (t2.setField trigger 0) t3) :
    ClosesLoop trigger b s t2 t3 (exitDoneStep (polledOutcome b) t3) := by
  obtain ⟨hsent, hx⟩ : wroteConfig t2 t3 ∧ t3.x = (t2.setField trigger 0).x := ⟨h3.sent, h3.x⟩
  obtain ⟨hbytes, hstream⟩ : readBytes s t2 b ∧ holdsStream t2 b := ⟨h2.bytes, h2.stream⟩
  obtain ⟨x2, bus2, n, rfl⟩ := h2.exists_eq
  obtain ⟨x3, bus3, rfl⟩ := h3.exists_eq
  exact ⟨hbytes, hstream, hsent, hx, rfl, rfl, ⟨rfl, rfl, rfl, rfl, rfl, rfl, rfl, rfl, rfl, rfl, rfl⟩, rfl, rfl⟩

namespace ClosesLoop

theorem ends {trigger : FieldRow} (h : ClosesLoop trigger b s t2 t3 t) : endsReady t := by
  rw [h.done]
  exact ⟨rfl, rfl, rfl, rfl⟩

theorem sent_done {trigger : FieldRow} (h : ClosesLoop trigger b s t2 t3 t) : wroteConfig t2 t := by
  rw [h.done]
  exact h.sent

theorem outcome {trigger : FieldRow} (h : ClosesLoop trigger b s t2 t3 t) : t.outcome = polledOutcome b := by rw [h.done]

theorem x_done {trigger : FieldRow} (h : ClosesLoop trigger b s t2 t3 t) : t.x = (t2.setField trigger 0).x := by
  rw [h.done]
  exact h.x

end ClosesLoop

theorem keepsHostPort.trans (h1 : keepsHostPort s t1) (h2 : keepsHostPort t1 t) : keepsHostPort s t := by
  obtain ⟨hcw, hargCur, harg, hres, herr, hdrop, hbus, hev, hpar, hag, hhr⟩ := h1
  simpa only [keepsHostPort, hcw, hargCur, harg, hres, herr, hdrop, hbus, hev, hpar, hag, hhr] using h2

theorem keepsHostPort.params (h : keepsHostPort s t) : t.env.params = s.env.params := by
  obtain ⟨_, _, _, _, _, _, _, _, hpar, _, _⟩ := h
  exact hpar

/-- A seek poll with STC = 1 ends the loop (R176). -/
theorem seekPollStep_stc (hread : s.env.peekRead = .bytes b) (hlen : b.length = 32)
    (hstc : (b.getD 0 0).getLsbD 6 = true) :
    seekPollStep s = goto (.seekExit (polledOutcome b)) (afterRead b s) := by
  obtain ⟨_, hflag, _⟩ := flags_afterRead b s
  rw [seekPollStep, readAll_ok _ hread hlen, seekTest, hflag, hstc, pollOutcome_afterRead, hstc]
  rfl

/-- A tune poll with STC = 1 or SFBL = 1 ends the loop (R175). -/
theorem tunePollStep_readTo (hread : s.env.peekRead = .bytes b) (hlen : b.length = 32)
    (hends : (b.getD 0 0).getLsbD 6 = true ∨ (b.getD 0 0).getLsbD 5 = true) :
    ReadTo (.tuneExit (polledOutcome b)) b s (tunePollStep s) := by
  obtain ⟨_, hstc, hsfbl⟩ := flags_afterRead b s
  have hout : (afterRead b s).pollOutcome = polledOutcome b := by
    rw [pollOutcome_afterRead, polledOutcome]
    rcases hends with h | h <;> rw [h] <;> rfl
  rw [tunePollStep, readAll_ok _ hread hlen]
  rcases tuneTest_cases (afterRead b s) with ⟨_, h⟩ | ⟨hmore, _⟩
  · rw [h, hout]
    exact ⟨rfl, readBytes_afterRead b s, holdsStream_congr rfl (holdsStream_afterRead b s)⟩
  · rw [hstc, hsfbl] at hmore
    exact absurd (hends.imp_right Or.inl) hmore

/-- SEEK from its first poll, when that poll ends the loop (R173, R179). -/
theorem seek_closesLoop (mode up : BitVec 1) (hp : s.pos = .seekPoll) (hread : s.env.peekRead = .bytes b)
    (hlen : b.length = 32) (hw : s.env.peekWrite = .ok) (hstc : (b.getD 0 0).getLsbD 6 = true) :
    ∃ t2 t3 t, exec (.seek mode up) s = .next t2 ∧ exec (.seek mode up) t2 = .next t3 ∧
      exec (.seek mode up) t3 = .next t ∧ ClosesLoop Field.seek b s t2 t3 t := by
  have hpoll := readTo_goto (.seekExit (polledOutcome b)) b s
  have hw2 : (goto (.seekExit (polledOutcome b)) (afterRead b s)).env.peekWrite = .ok := hw
  obtain ⟨t3, hexit, hwrote⟩ := exec_seekExit_ok mode up (goto_pos _ _) hw2
  refine ⟨_, t3, _, (exec_seek_seekPoll hp).trans (congrArg _ (seekPollStep_stc hread hlen hstc)), hexit,
    exec_seek_exitDone ?_, hpoll.closesLoop hwrote⟩
  rw [hwrote.rest]

/-- TUNE, and POWER_UP's tune, from the first poll, when that poll ends the loop (R175, R179). -/
theorem tune_closesLoop {i : Instr} (hi : i = .tune ∨ i = .powerUp) (hp : s.pos = .tunePoll)
    (hread : s.env.peekRead = .bytes b) (hlen : b.length = 32) (hw : s.env.peekWrite = .ok)
    (hends : (b.getD 0 0).getLsbD 6 = true ∨ (b.getD 0 0).getLsbD 5 = true) :
    ∃ t2 t3 t, exec i s = .next t2 ∧ exec i t2 = .next t3 ∧ exec i t3 = .next t ∧
      ClosesLoop Field.tune b s t2 t3 t := by
  have hpoll := tunePollStep_readTo hread hlen hends
  obtain ⟨hpos2, hw2⟩ : (tunePollStep s).pos = .tuneExit (polledOutcome b) ∧ (tunePollStep s).env.peekWrite = .ok := by
    rw [hpoll.rest]
    exact ⟨rfl, hw⟩
  obtain ⟨t3, hexit, hwrote⟩ := exec_tuneExit_ok hi hpos2 hw2
  refine ⟨_, t3, _, exec_tunePoll hi hp, hexit, exec_tune_exitDone hi ?_, hpoll.closesLoop hwrote⟩
  rw [hwrote.rest]

end

/-! ## SEEK -/

section
variable {s : State} {b : List Byte}

theorem exec_seek_start {mode up : BitVec 1} (hp : s.pos = .start) : exec (.seek mode up) s =
    .next (writeCfg (fun s => goto .seekPoll (sampleT0 s)) (stageSeek mode up s)) := by
  simp only [exec, execSeek, hp]

/-- What the trigger write of SEEK leaves once it is answered (R173, D17). -/
theorem exec_seek_trigger (mode up : BitVec 1) (hp : s.pos = .start) (hw : s.env.peekWrite = .ok) :
    ∃ t, exec (.seek mode up) s = .next t ∧ wroteConfig s t ∧ t.x = (stageSeek mode up s).x ∧
      t = { s with
        x := t.x, bus := t.bus, env := s.env.popWrite.popNow, t0 := s.nowAnswer, pos := .seekPoll } := by
  have hst := Stages.seek mode up s
  refine ⟨_, (exec_seek_start hp).trans (congrArg _ (writeCfg_of_stages hst hw _)), wroteConfig_of_stages hst rfl rfl,
    rfl, ?_⟩
  rw [hst.rest]
  rfl

/-- Settles O42: the trigger write, then the loop that its first poll closes. -/
theorem seekRunsToReady : Obligations.SeekRunsToReady := by
  intro mode up s b hp hread hlen hw hw' hstc
  obtain ⟨hbits, hframe⟩ := stageSeek_regs s mode up
  obtain ⟨t1, hfirst, hsent, hx, hrest⟩ := exec_seek_trigger mode up hp hw
  have hreg := reg_congr hx
  obtain ⟨hpos, hread, hw, ht0, hhost⟩ : t1.pos = .seekPoll ∧ t1.env.peekRead = .bytes b ∧ t1.env.peekWrite = .ok ∧
      t1.t0 = s.nowAnswer ∧ keepsHostPort s t1 := by
    rw [hrest]
    exact ⟨rfl, hread, hw', rfl, rfl, rfl, rfl, rfl, rfl, rfl, rfl, rfl, rfl, rfl, rfl⟩
  obtain ⟨t2, t3, t, hpoll, hexit, hdone, hloop⟩ := seek_closesLoop mode up hpos hread hlen hw hstc
  have hregDone := reg_congr hloop.x_done
  have hkeeps : ∀ j : BitVec 4, j ≠ 2 → t.reg j = t2.reg j := fun j hj =>
    (hregDone j).trans ((clearSeek_reg t2 j).trans (if_neg hj))
  exact ⟨t1, t2, t3, t, hfirst, hpoll, hexit, hdone, hsent, ht0,
    fun k hk => (congrArg (·.getLsbD k) (hreg 2)).trans (hbits k hk), fun j hj => (hreg j).trans (hframe j hj),
    hloop.stream, hloop.bytes, hloop.sent_done, (hregDone 2).trans (clearSeek_reg t2 2), hkeeps, hloop.ends,
    hloop.outcome, hhost.trans hloop.host⟩

end

/-! ## TUNE -/

section
variable {s : State} {b : List Byte}

/-- What the trigger write of TuneSeq leaves once it is answered (R175). -/
theorem tuneTriggerStep_ok (f : Word) (hw : s.env.peekWrite = .ok) :
    wroteConfig s (tuneTriggerStep f s) ∧ (tuneTriggerStep f s).x = (stageTune f s).x ∧
      tuneTriggerStep f s = { s with
        x := (tuneTriggerStep f s).x, bus := (tuneTriggerStep f s).bus, polls := 0, env := s.env.popWrite,
        pos := .tunePoll } := by
  have hst := Stages.tune f s
  rw [tuneTriggerStep_eq, writeCfg_of_stages hst hw]
  refine ⟨wroteConfig_of_stages hst rfl rfl, rfl, ?_⟩
  rw [hst.rest]
  rfl

theorem exec_tune_start (hp : s.pos = .start) : exec .tune s = .next (tuneTriggerStep s.argCur s) := by
  simp only [exec, execTune, hp]

/-- Settles O43: the trigger write, then the loop that its first poll closes. -/
theorem tuneRunsToReady : Obligations.TuneRunsToReady := by
  intro s b hp hread hlen hw hw' hends
  obtain ⟨htune, hunnamed⟩ := stageTune_high s s.argCur
  obtain ⟨hsent, hx, hrest⟩ := tuneTriggerStep_ok s.argCur hw
  have hfirst := exec_tune_start hp
  have hreg := reg_congr hx
  generalize tuneTriggerStep s.argCur s = t1 at *
  obtain ⟨hpos, hread, hw, hhost⟩ : t1.pos = .tunePoll ∧ t1.env.peekRead = .bytes b ∧ t1.env.peekWrite = .ok ∧
      keepsHostPort s t1 := by
    rw [hrest]
    exact ⟨rfl, hread, hw', rfl, rfl, rfl, rfl, rfl, rfl, rfl, rfl, rfl, rfl, rfl⟩
  obtain ⟨t2, t3, t, hpoll, hexit, hdone, hloop⟩ := tune_closesLoop (.inl rfl) hpos hread hlen hw hends
  have hregDone := reg_congr hloop.x_done
  have hkeeps : ∀ j : BitVec 4, j ≠ 3 → t.reg j = t2.reg j := fun j hj =>
    (hregDone j).trans ((clearTune_reg t2 j).trans (if_neg hj))
  refine ⟨t1, t2, t3, t, hfirst, hpoll, hexit, hdone, hsent, ?_, ?_, ?_, fun j hj =>
    (hreg j).trans ((stageTune_regs s s.argCur).2 j hj), hloop.stream, hloop.bytes, hloop.sent_done,
    (hregDone 3).trans (clearTune_reg t2 3), hkeeps, hloop.ends, hloop.outcome,
    hhost.trans hloop.host⟩ <;> rw [hreg 3]
  · exact stageTune_chan s s.argCur
  · exact htune
  · exact hunnamed

end

/-! ## POWER_UP -/

section
variable {s : State} {b : List Byte}

theorem exec_powerUp_start (hp : s.pos = .start) : exec .powerUp s = .next (readAll (goto .xoscWrite) s) := by
  simp only [exec, execPowerUp, hp]

theorem exec_powerUp_xoscWrite (hp : s.pos = .xoscWrite) :
    exec .powerUp s = .next (writeCfg (goto .xoscDelay) (s.setField Field.xoscen 1)) := by
  simp only [exec, execPowerUp, hp]

theorem exec_powerUp_xoscDelay (hp : s.pos = .xoscDelay) :
    exec .powerUp s = .next (waited s.env.params.tXoscMs .configWrite s) := by
  simp only [exec, execPowerUp, hp, goto_delay_eq_waited]

theorem exec_powerUp_configWrite (hp : s.pos = .configWrite) :
    exec .powerUp s = .next (writeCfg (goto .powerUpDelay) (stagePowerUp s)) := by
  simp only [exec, execPowerUp, hp]

theorem exec_powerUp_powerUpDelay (hp : s.pos = .powerUpDelay) :
    exec .powerUp s = .next (waited s.env.params.tPwrupMs .tuneTrigger s) := by
  simp only [exec, execPowerUp, hp, goto_delay_eq_waited]

theorem exec_powerUp_tuneTrigger (hp : s.pos = .tuneTrigger) :
    exec .powerUp s = .next (tuneTriggerStep s.env.params.defaultFreq s) := by
  simp only [exec, execPowerUp, hp]

/-- The first read of POWER_UP, answered. -/
theorem exec_powerUp_read (hp : s.pos = .start) (hread : s.env.peekRead = .bytes b) (hlen : b.length = 32) :
    ∃ t, exec .powerUp s = .next t ∧ ReadTo .xoscWrite b s t :=
  ⟨_, (exec_powerUp_start hp).trans (congrArg _ (readAll_ok _ hread hlen)), readTo_goto _ b s⟩

/-- POWER_UP up to its second delay, with its read and its two writes answered (R171). -/
theorem powerUp_configures (hp : s.pos = .start) (hread : s.env.peekRead = .bytes b) (hlen : b.length = 32)
    (hw : s.env.peekWrite = .ok) (hw' : s.env.popWrite.peekWrite = .ok) :
    ∃ t1 t2 t3 t4 t5, exec .powerUp s = .next t1 ∧ exec .powerUp t1 = .next t2 ∧ exec .powerUp t2 = .next t3 ∧
      exec .powerUp t3 = .next t4 ∧ exec .powerUp t4 = .next t5 ∧ ReadTo .xoscWrite b s t1 ∧
      WroteTo .xoscDelay t1 (t1.setField Field.xoscen 1) t2 ∧ t3 = waited s.env.params.tXoscMs .configWrite t2 ∧
      WroteTo .powerUpDelay t3 (stagePowerUp t3) t4 ∧ t5 = waited s.env.params.tPwrupMs .tuneTrigger t4 := by
  obtain ⟨t1, hexec1, h1⟩ := exec_powerUp_read hp hread hlen
  obtain ⟨t2, hexec2, h2⟩ := exec_wroteTo (exec_powerUp_xoscWrite h1.pos) (Stages.refl t1).andField
    (by rwa [h1.env])
  have henv2 : t2.env = s.env.popRead.popWrite := by rw [h2.env, h1.env]
  obtain ⟨hpos3, henv3, _⟩ := waited_facts (s := t2) (d := s.env.params.tXoscMs) (p := .configWrite) rfl
  obtain ⟨t4, hexec4, h4⟩ := exec_wroteTo (exec_powerUp_configWrite hpos3) (.powerUp _)
    (by rw [henv3, henv2]; exact hw')
  have hpar2 : t2.env.params = s.env.params := by rw [henv2]; rfl
  have hpar4 : t4.env.params = s.env.params := by rw [h4.env, henv3, henv2]; rfl
  have hexec3 := exec_powerUp_xoscDelay h2.pos
  have hexec5 := exec_powerUp_powerUpDelay h4.pos
  rw [hpar2] at hexec3
  rw [hpar4] at hexec5
  exact ⟨t1, t2, _, t4, _, hexec1, hexec2, hexec3, hexec4, hexec5, h1, h2, rfl, h4, rfl⟩

/-- POWER_UP from its trigger write, when its first poll ends the loop (R175, R179). -/
theorem powerUp_tunes (hp : s.pos = .tuneTrigger) (hread : s.env.peekRead = .bytes b) (hlen : b.length = 32)
    (hw : s.env.peekWrite = .ok) (hw' : s.env.popWrite.peekWrite = .ok) (hstc : (b.getD 0 0).getLsbD 6 = true) :
    ∃ t6 t7 t8 t, exec .powerUp s = .next t6 ∧ exec .powerUp t6 = .next t7 ∧ exec .powerUp t7 = .next t8 ∧
      exec .powerUp t8 = .next t ∧ wroteConfig s t6 ∧ t6.x = (stageTune s.env.params.defaultFreq s).x ∧
      t6.env.clock = s.env.clock ∧ keepsHostPort s t6 ∧ ClosesLoop Field.tune b t6 t7 t8 t := by
  have hexec6 := exec_powerUp_tuneTrigger hp
  obtain ⟨hsent, hx, hrest⟩ := tuneTriggerStep_ok s.env.params.defaultFreq hw
  generalize tuneTriggerStep s.env.params.defaultFreq s = t6 at *
  obtain ⟨hpos, henv, hhost⟩ : t6.pos = .tunePoll ∧ t6.env = s.env.popWrite ∧ keepsHostPort s t6 := by
    rw [hrest]
    exact ⟨rfl, rfl, rfl, rfl, rfl, rfl, rfl, rfl, rfl, rfl, rfl, rfl, rfl⟩
  obtain ⟨t7, t8, t, hexec7, hexec8, hexec9, hloop⟩ := tune_closesLoop (.inr rfl) hpos (by rw [henv]; exact hread) hlen
    (by rw [henv]; exact hw') (.inl hstc)
  exact ⟨t6, t7, t8, t, hexec6, hexec7, hexec8, hexec9, hsent, hx, by rw [henv]; rfl, hhost, hloop⟩

/-- Settles O40: its configuration up to the second delay, then its tune. -/
theorem powerUpRunsToReady : Obligations.PowerUpRunsToReady := by
  intro s b0 b1 hp hread0 hread1 hlen0 hlen1 hw2 hw4 hw6 hw8 hstc p
  obtain ⟨t1, t2, t3, t4, t5, hexec1, hexec2, hexec3, hexec4, hexec5, h1, h2, ht3, h4, ht5⟩ :=
    powerUp_configures hp hread0 hlen0 hw2 hw4
  obtain ⟨_, henv3, hhost3⟩ := waited_facts ht3.symm
  obtain ⟨hpos5, henv5, hhost5⟩ := waited_facts ht5.symm
  have henv2 : t2.env = s.env.popRead.popWrite := by rw [h2.env, h1.env]
  rw [henv2] at henv3
  rw [h4.env, henv3] at henv5
  obtain ⟨t6, t7, t8, t, hexec6, hexec7, hexec8, hexec9, hsent6, hx6, hclock6, hhost6, hloop⟩ :=
    powerUp_tunes hpos5 (by rw [henv5]; exact hread1) hlen1 (by rw [henv5]; exact hw6) (by rw [henv5]; exact hw8) hstc
  obtain ⟨hpar1, hpar3, hpar5⟩ : t1.env.params = p ∧ t3.env.params = p ∧ t5.env.params = p := by
    rw [h1.env, henv3, henv5]
    exact ⟨rfl, rfl, rfl⟩
  have hhost : keepsHostPort s t6 :=
    h1.host.trans (h2.host.trans (hhost3.trans (h4.host.trans (hhost5.trans hhost6))))
  obtain ⟨hxosc, hxoscFrame⟩ := stageXoscen_regs t1
  obtain ⟨hr2, hr4, hr5, hr6, hconfigFrame⟩ := stagePowerUp_regs t3
  obtain ⟨htune, htuneFrame⟩ := stageTune_regs t5 p.defaultFreq
  rw [hpar3] at hr4 hr5 hr6
  rw [hpar5] at hx6
  have hreg2 := reg_congr h2.x
  have hreg4 := reg_congr h4.x
  have hreg6 := reg_congr hx6
  have hreg8 := reg_congr hloop.x
  refine ⟨t1, t2, t3, t4, t5, t6, t7, t8, t, hexec1, hexec2, hexec3, hexec4, hexec5, hexec6, hexec7, hexec8, hexec9,
    h1.stream, h1.bytes, by rw [h1.rest], h1.pos, h2.sent, (hreg2 7).trans hxosc,
    fun j hj => (hreg2 j).trans (hxoscFrame j hj), ht3, h4.sent, (hreg4 2).trans hr2, (hreg4 4).trans hr4,
    (hreg4 5).trans hr5, (hreg4 6).trans hr6, fun j j2 j4 j5 j6 => (hreg4 j).trans (hconfigFrame j j2 j4 j5 j6), ht5,
    hsent6, (hreg6 3).trans htune, fun j hj => (hreg6 j).trans (htuneFrame j hj), hloop.stream, hloop.bytes, hloop.sent,
    (hreg8 3).trans (clearTune_reg t7 3), fun j hj => (hreg8 j).trans ((clearTune_reg t7 j).trans (if_neg hj)),
    hloop.done, hloop.ends, hhost.trans hloop.host, hloop.synced, ?clock, ?bus⟩
  case clock =>
    rw [hloop.clock, hclock6, henv5]
    simp [Option.map_map, Function.comp_def, Nat.add_assoc, p]
  case bus =>
    have hbus : t.bus = t8.bus := by rw [hloop.done]
    have hbus3 : t3.bus = t2.bus := by rw [ht3]; rfl
    have hbus5 : t5.bus = t4.bus := by rw [ht5]; rfl
    rw [hbus, hloop.sent, hloop.params, hloop.bytes, hsent6, hbus5, h4.sent, hbus3, h2.sent, h1.bytes, hpar1, hpar3,
      hpar5, hhost.params]
    simp [p]

end

end Sys2Proof.Machine
end

section
/-! SUPPORT. The bounded sequences (42_tuning_fsm.md R182, 43_rds_decoder.md R210, R241, 70_reset_and_hazards.md R321): whatever
the device and the time base answer, each one is over after a number of steps that its parameters fix. -/

namespace Sys2Proof.Machine

/-! ## Ending within a number of steps -/

/-- Within `n` steps of command `i` the block is idle, in READY with an outcome that `os` lets pass, or in HALTED after a
failed transaction. -/
def EndsWithin (os : OutcomeCode → Prop) (i : Instr) (n : Nat) (s : State) : Prop :=
  ∃ t, runCommand i n s = .next t ∧ t.pos = .idle ∧
    ((t.seqState = .ready ∧ os t.outcome) ∨ (t.seqState = .halted ∧ t.outcome = .err .bus))

section
variable {os : OutcomeCode → Prop} {i : Instr} {n m : Nat} {s t : State}

theorem runCommand_idle (i : Instr) (n : Nat) (hp : s.pos = .idle) : runCommand i n s = .next s := by
  cases n <;> simp [runCommand, State.busy, hp]

theorem runCommand_succ (hp : s.pos ≠ .idle) (hexec : exec i s = .next t) :
    runCommand i (n + 1) s = runCommand i n t := by
  simp [runCommand, State.busy, hp, hexec]

namespace EndsWithin

theorem of_idle (hp : s.pos = .idle)
    (hend : (s.seqState = .ready ∧ os s.outcome) ∨ (s.seqState = .halted ∧ s.outcome = .err .bus)) :
    EndsWithin os i n s := ⟨s, runCommand_idle i n hp, hp, hend⟩

theorem step (hp : s.pos ≠ .idle) (hexec : exec i s = .next t) (h : EndsWithin os i n t) :
    EndsWithin os i (n + 1) s := by
  obtain ⟨u, hrun, hend⟩ := h
  exact ⟨u, (runCommand_succ hp hexec).trans hrun, hend⟩

theorem exists_step (hp : s.pos ≠ .idle) (h : EndsWithin os i (n + 1) s) :
    ∃ t, exec i s = .next t ∧ EndsWithin os i n t := by
  obtain ⟨u, hrun, hend⟩ := h
  have hbusy : s.busy = true := by simp [State.busy, hp]
  rw [runCommand, if_pos hbusy] at hrun
  split at hrun
  case h_1 t hexec => exact ⟨t, hexec, u, hrun, hend⟩
  case h_2 r hstop => exact absurd hrun (hstop u)

theorem succ (h : EndsWithin os i n s) : EndsWithin os i (n + 1) s := by
  induction n generalizing s with
  | zero =>
    obtain ⟨u, hrun, hidle, hend⟩ := h
    obtain rfl := Host.Outcome.next.inj hrun
    exact of_idle hidle hend
  | succ n ih =>
    by_cases hp : s.pos = .idle
    · obtain ⟨u, hrun, _, hend⟩ := h
      rw [runCommand_idle i _ hp] at hrun
      obtain rfl := Host.Outcome.next.inj hrun
      exact of_idle hp hend
    · obtain ⟨t, hexec, ht⟩ := h.exists_step hp
      exact (ih ht).step hp hexec

theorem mono (h : EndsWithin os i n s) (hle : n ≤ m) : EndsWithin os i m s :=
  Nat.le_induction h (fun _ _ => succ) m hle

/-- A failed read or write ends the command in HALTED (60_exceptions.md R286). -/
theorem readAll {k : State → State} (hok : ∀ b, EndsWithin os i n (k (afterRead b s))) :
    EndsWithin os i n (readAll k s) := by
  rcases readAll_cases k s with ⟨b, _, _, h⟩ | ⟨_, h⟩ <;> rw [h]
  · exact hok b
  · exact of_idle rfl (.inr ⟨rfl, rfl⟩)

theorem writeCfg {k : State → State} (hok : EndsWithin os i n (k (afterWrite s))) :
    EndsWithin os i n (writeCfg k s) := by
  rcases writeCfg_cases k s with ⟨_, h⟩ | ⟨_, h⟩ <;> rw [h]
  · exact hok
  · exact of_idle rfl (.inr ⟨rfl, rfl⟩)

end EndsWithin

end

/-! ## The time base during a sequence -/

/-- `u` has the parameters, the operand and the deadline starts of `s`, and its next `Now()` answers `b` or more. -/
structure Timed (s : State) (b : Nat) (u : State) : Prop where
  params : u.env.params = s.env.params
  argCur : u.argCur = s.argCur
  tc : u.tc = s.tc
  t0 : u.t0 = s.t0
  clock : ∃ c, u.env.clock = some c ∧ b ≤ c

namespace Timed

variable {s u : State} {b : Nat}

theorem of_sampleT0 (s : State) : Timed (sampleT0 s) s.nowAnswer (sampleT0 s) := ⟨rfl, rfl, rfl, rfl, _, rfl, le_rfl⟩

theorem of_sampleTc (s : State) : Timed (sampleTc s) s.nowAnswer (sampleTc s) := ⟨rfl, rfl, rfl, rfl, _, rfl, le_rfl⟩

theorem afterRead (h : Timed s b u) (bytes : List Byte) : Timed s b (afterRead bytes u) :=
  ⟨h.params, h.argCur, h.tc, h.t0, h.clock⟩

theorem goto (h : Timed s b u) (p : SeqPos) : Timed s b (goto p u) := ⟨h.params, h.argCur, h.tc, h.t0, h.clock⟩

theorem emit (h : Timed s b u) (e : Event) : Timed s b (emit e u) := ⟨h.params, h.argCur, h.tc, h.t0, h.clock⟩

theorem le_now (h : Timed s b u) : b ≤ u.nowAnswer := by
  obtain ⟨c, hc, hle⟩ := h.clock
  have hbound := nowBound_le_state_nowAnswer u
  simp only [Env.nowBound, hc, Option.getD_some] at hbound
  omega

theorem tickNow (h : Timed s b u) : Timed s u.nowAnswer u.tickNow :=
  ⟨h.params, h.argCur, h.tc, h.t0, _, rfl, le_rfl⟩

theorem delay (h : Timed s b u) (d : Nat) : Timed s (b + d) (delay d u) := by
  obtain ⟨c, hc, hle⟩ := h.clock
  exact ⟨h.params, h.argCur, h.tc, h.t0, c + d, congrArg (Option.map (· + d)) hc, Nat.add_le_add_right hle d⟩

end Timed

/-- `rounds d p` delays of `p` ms last `d` ms or more. -/
theorem le_rounds_mul (d : Nat) {p : Nat} (hp : 0 < p) : d ≤ rounds d p * p := by
  have hdiv := Nat.div_add_mod (d + p - 1) p
  have hmod := Nat.mod_lt (d + p - 1) hp
  rw [rounds, Nat.mul_comm]
  omega

/-! ## SEEK -/

/-- The outcomes of a poll loop (R178). -/
def PolledOutcome (o : OutcomeCode) : Prop := o = .ok ∨ o = .notFound ∨ o = .hwTimeout

theorem polledOutcome_pollOutcome (s : State) : PolledOutcome s.pollOutcome := by
  unfold PolledOutcome State.pollOutcome
  cases s.stc <;> cases s.sfbl <;> decide

section
variable {s u : State} {o : OutcomeCode} {mode up : BitVec 1}

theorem exitDone_ends {i : Instr} (hi : i = .seek mode up ∨ i = .tune ∨ i = .powerUp) (hp : s.pos = .exitDone o)
    (ho : PolledOutcome o) : EndsWithin PolledOutcome i 1 s :=
  .step (by rw [hp]; nofun) (exec_exitDone hi hp) (.of_idle rfl (.inl ⟨rfl, ho⟩))

theorem seekExit_ends (hp : s.pos = .seekExit o) (ho : PolledOutcome o) : EndsWithin PolledOutcome (.seek mode up) 2 s :=
  .step (by rw [hp]; nofun) (exec_seek_seekExit hp) (.writeCfg (exitDone_ends (.inl rfl) rfl ho))

/-- A seek poll and what follows it, when `n` more delays reach the deadline (R176). -/
theorem seekPoll_ends {b n : Nat} (ht : Timed s b u)
    (hn : s.t0 + s.env.params.tSeekMs ≤ b + n * s.env.params.tSeekPollMs) :
    EndsWithin PolledOutcome (.seek mode up) (2 * n + 2) (seekPollStep u) := by
  induction n using Nat.strong_induction_on generalizing u b with
  | _ n ih =>
    refine .readAll fun bytes => ?_
    have hread := ht.afterRead bytes
    have hnow := hread.le_now
    rcases seekTest_cases (afterRead bytes u) with ⟨_, h⟩ | ⟨_, _, h⟩ | ⟨_, hleft, h⟩ <;> rw [h]
    · exact (seekExit_ends rfl (polledOutcome_pollOutcome _)).mono (Nat.le_add_left 2 _)
    · exact (seekExit_ends rfl (polledOutcome_pollOutcome _)).mono (Nat.le_add_left 2 _)
    · rw [hread.t0, hread.params] at hleft
      obtain _ | n := n
      · omega
      have hwait := hread.tickNow.goto .seekDelay
      refine .step nofun (exec_seek_seekDelay rfl)
        (.step nofun (exec_seek_seekPoll rfl) (ih n (Nat.lt_succ_self n) ((hwait.delay _).goto .seekPoll) ?_))
      rw [hwait.params]
      rw [Nat.succ_mul] at hn
      omega

/-- Settles O46: each delay brings the time law one poll interval nearer the deadline. -/
theorem seekEndsWithinItsBound : Obligations.SeekEndsWithinItsBound := by
  refine ⟨fun mode up s hp hpos => ?_, rfl⟩
  have hends : EndsWithin PolledOutcome (.seek mode up) (seekSteps s.env.params.toTimingParams) s := by
    refine .step (by rw [hp]; nofun) (exec_seek_start hp) (.writeCfg ?_)
    have hparams : (stageSeek mode up s).env.params = s.env.params := by rw [(Stages.seek mode up s).rest]; rfl
    have htimed := (Timed.of_sampleT0 (afterWrite (stageSeek mode up s))).goto .seekPoll
    refine .step nofun (exec_seek_seekPoll rfl) (seekPoll_ends htimed ?_)
    simpa [hparams] using le_rounds_mul s.env.params.tSeekMs hpos
  obtain ⟨t, hrun, hidle, hend⟩ := hends
  exact ⟨t, hrun, hidle, hend⟩

end

/-! ## TUNE and POWER_UP -/

section
variable {i : Instr} {s : State} {o : OutcomeCode}

theorem tuneExit_ends (hi : i = .tune ∨ i = .powerUp) (hp : s.pos = .tuneExit o) (ho : PolledOutcome o) :
    EndsWithin PolledOutcome i 2 s :=
  .step (by rw [hp]; nofun) (exec_tuneExit hi hp)
    (.writeCfg (exitDone_ends (mode := 0) (up := 0) (.inr hi) rfl ho))

/-- A tune poll and what follows it, when `n` more polls are allowed (R175). -/
theorem tunePoll_ends {n : Nat} (hi : i = .tune ∨ i = .powerUp)
    (hn : s.polls + 1 + n = s.env.params.nTunePolls) : EndsWithin PolledOutcome i (2 * n + 2) (tunePollStep s) := by
  induction n generalizing s with
  | zero =>
    refine .readAll fun bytes => ?_
    rcases tuneTest_cases (afterRead bytes s) with ⟨_, h⟩ | ⟨hmore, _⟩
    · exact h ▸ tuneExit_ends hi rfl (polledOutcome_pollOutcome _)
    · exact absurd (.inr (.inr hn)) hmore
  | succ n ih =>
    refine .readAll fun bytes => ?_
    rcases tuneTest_cases (afterRead bytes s) with ⟨_, h⟩ | ⟨_, h⟩ <;> rw [h]
    · exact (tuneExit_ends hi rfl (polledOutcome_pollOutcome _)).mono (Nat.le_add_left 2 _)
    · refine .step nofun (exec_tuneDelay hi rfl) (.step nofun (exec_tunePoll hi rfl) (ih ?_))
      show s.polls + 1 + 1 + n = s.env.params.nTunePolls
      omega

/-- The trigger write of TuneSeq and what follows it (R175). -/
theorem tuneTriggerStep_ends (hi : i = .tune ∨ i = .powerUp) (f : Word) (hpos : 0 < s.env.params.nTunePolls) :
    EndsWithin PolledOutcome i (2 * s.env.params.nTunePolls + 1) (tuneTriggerStep f s) := by
  obtain ⟨n, hn⟩ := Nat.exists_eq_add_of_lt hpos
  have hparams : (stageTune f s).env.params = s.env.params := by rw [(Stages.tune f s).rest]; rfl
  have hsteps : 2 * s.env.params.nTunePolls + 1 = 2 * n + 2 + 1 := by omega
  rw [tuneTriggerStep_eq, hsteps]
  refine .writeCfg (.step nofun (exec_tunePoll hi rfl) (tunePoll_ends hi ?_))
  show 0 + 1 + n = (stageTune f s).env.params.nTunePolls
  rw [hparams]
  omega

/-- TUNE ends within its bound (R182). -/
theorem tune_ends (hp : s.pos = .start) (hpos : 0 < s.env.params.nTunePolls) :
    EndsWithin PolledOutcome .tune (tuneSteps s.env.params.toTimingParams) s :=
  .step (by rw [hp]; nofun) (exec_tune_start hp) (tuneTriggerStep_ends (.inl rfl) _ hpos)

/-- Settles O47: each poll counts towards N_TUNE_POLLS. -/
theorem tuneEndsWithinItsBound : Obligations.TuneEndsWithinItsBound :=
  ⟨fun _ hp hpos => tune_ends hp hpos, rfl⟩

theorem powerUpDelay_ends {n : Nat} (hp : s.pos = .powerUpDelay) (hn : s.env.params.nTunePolls = n) (hpos : 0 < n) :
    EndsWithin PolledOutcome .powerUp (2 * n + 3) s := by
  subst hn
  exact .step (by rw [hp]; nofun) (exec_powerUp_powerUpDelay hp)
    (.step nofun (exec_powerUp_tuneTrigger rfl) (tuneTriggerStep_ends (.inr rfl) _ hpos))

theorem configWrite_ends {n : Nat} (hp : s.pos = .configWrite) (hn : s.env.params.nTunePolls = n) (hpos : 0 < n) :
    EndsWithin PolledOutcome .powerUp (2 * n + 4) s := by
  have hparams : (stagePowerUp s).env.params = s.env.params := by rw [(Stages.powerUp s).rest]; rfl
  exact .step (by rw [hp]; nofun) (exec_powerUp_configWrite hp)
    (.writeCfg (powerUpDelay_ends rfl ((congrArg (·.nTunePolls) hparams).trans hn) hpos))

theorem xoscDelay_ends {n : Nat} (hp : s.pos = .xoscDelay) (hn : s.env.params.nTunePolls = n) (hpos : 0 < n) :
    EndsWithin PolledOutcome .powerUp (2 * n + 5) s :=
  .step (by rw [hp]; nofun) (exec_powerUp_xoscDelay hp) (configWrite_ends rfl hn hpos)

/-- POWER_UP ends within its bound (R171, R182). -/
theorem powerUp_ends (hp : s.pos = .start) (hpos : 0 < s.env.params.nTunePolls) :
    EndsWithin PolledOutcome .powerUp (powerUpSteps s.env.params.toTimingParams) s :=
  .step (by rw [hp]; nofun) (exec_powerUp_start hp) (.readAll fun _ =>
    .step nofun (exec_powerUp_xoscWrite rfl) (.writeCfg (xoscDelay_ends rfl rfl hpos)))

/-- Settles O48: five steps before those of TUNE. -/
theorem powerUpEndsWithinItsBound : Obligations.PowerUpEndsWithinItsBound :=
  ⟨fun _ hp hpos => powerUp_ends hp hpos, rfl⟩

end

/-! ## RDS_DECODE and RDS_CAPTURE -/

section
variable {os : OutcomeCode → Prop} {i : Instr} {group none : State → State} {s : State} {m : Nat}

/-- A fetch poll and what follows it, when `n` more delays reach the fetch deadline and what follows a group or a timeout
ends within `m` steps (43_rds_decoder.md R210). -/
theorem fetchPoll_ends (hpoll : ∀ u, u.pos = .fetchPoll → exec i u = .next (fetchPollStep group none u))
    (hdelay : ∀ u, u.pos = .fetchDelay → exec i u = .next (fetchDelayStep u)) {b0 b n : Nat} {u : State}
    (hgroup : ∀ b u, b0 ≤ b → Timed s b u → EndsWithin os i m (group u))
    (hnone : ∀ b u, s.t0 + s.env.params.tRdsMs ≤ b → Timed s b u → EndsWithin os i m (none u))
    (hb : b0 ≤ b) (ht : Timed s b u) (hn : s.t0 + s.env.params.tRdsMs ≤ b + n * s.env.params.tRdsPollMs) :
    EndsWithin os i (2 * n + m) (fetchPollStep group none u) := by
  induction n using Nat.strong_induction_on generalizing u b with
  | _ n ih =>
    refine .readAll fun bytes => ?_
    have hread := ht.afterRead bytes
    have hnow := hread.le_now
    rcases fetchTest_cases group none (afterRead bytes u) with ⟨_, h⟩ | ⟨_, hover, h⟩ | ⟨_, hleft, h⟩ <;> rw [h]
    · exact (hgroup b _ hb hread).mono (Nat.le_add_left m _)
    · rw [hread.t0, hread.params] at hover
      exact (hnone _ _ hover hread.tickNow).mono (Nat.le_add_left m _)
    · rw [hread.t0, hread.params] at hleft
      obtain _ | n := n
      · omega
      have hwait := hread.tickNow.goto .fetchDelay
      have hsteps : 2 * (n + 1) + m = 2 * n + m + 1 + 1 := by omega
      rw [hsteps]
      refine .step nofun (hdelay _ rfl) (.step nofun (hpoll _ rfl)
        (ih n (Nat.lt_succ_self n) ?_ ((hwait.delay _).goto .fetchPoll) ?_))
      · omega
      · rw [hwait.params]
        rw [Nat.succ_mul] at hn
        omega

end

section
variable {s : State} {o : OutcomeCode}

/-- The outcomes of RDS_DECODE (R240). -/
def DecodeOutcome (o : OutcomeCode) : Prop := o = .ok ∨ o = .hwTimeout

theorem exec_rdsDecode_decodeGroup (hp : s.pos = .decodeGroup) :
    exec .rdsDecode s = .next (goto (.finish .ok) (decodeStep s)) := by
  simp only [exec, execRdsDecode, hp]

theorem decodeFinish_ends (hp : s.pos = .finish o) (ho : DecodeOutcome o) : EndsWithin DecodeOutcome .rdsDecode 1 s :=
  .step (by rw [hp]; nofun) (exec_rdsDecode_finish hp) (.of_idle rfl (.inl ⟨rfl, ho⟩))

/-- RDS_DECODE ends within its bound (R210, R240). -/
theorem rdsDecode_ends (hp : s.pos = .start) (hpos : 0 < s.env.params.tRdsPollMs) :
    EndsWithin DecodeOutcome .rdsDecode (decodeSteps s.env.params.toTimingParams) s := by
  refine .step (by rw [hp]; nofun) (exec_rdsDecode_start hp) (fetchPoll_ends (b0 := 0)
    (fun _ => exec_rdsDecode_fetchPoll) (fun _ => exec_rdsDecode_fetchDelay) (fun _ _ _ _ => ?_) (fun _ _ _ _ => ?_)
    (Nat.zero_le _) (.of_sampleT0 s) ?_)
  · exact .step nofun (exec_rdsDecode_decodeGroup rfl) (decodeFinish_ends rfl (.inl rfl))
  · exact (decodeFinish_ends rfl (.inr rfl)).succ
  · exact Nat.add_le_add_left (le_rounds_mul s.env.params.tRdsMs hpos) s.nowAnswer

/-- Settles O56: the fetch cycle within its rounds, then the decode and the completion. -/
theorem rdsDecodeEndsWithinItsBound : Obligations.RdsDecodeEndsWithinItsBound :=
  ⟨fun _ hp hpos => rdsDecode_ends hp hpos, rfl⟩

variable {fen : Bool} {gt : BitVec 4} {gv : GroupVer}

theorem exec_rdsCapture_start (hp : s.pos = .start) :
    exec (.rdsCapture fen gt gv) s = .next (captureTestStep fen gt gv (sampleTc s)) := by
  simp only [exec, execRdsCapture, hp]

theorem exec_rdsCapture_captureTest (hp : s.pos = .captureTest) :
    exec (.rdsCapture fen gt gv) s = .next (captureTestStep fen gt gv s) := by
  simp only [exec, execRdsCapture, hp]

theorem exec_rdsCapture_captureEmit (hp : s.pos = .captureEmit) :
    exec (.rdsCapture fen gt gv) s = .next (captureEmitStep s) := by
  simp only [exec, execRdsCapture, hp]

theorem exec_rdsCapture_captureDelay (hp : s.pos = .captureDelay) :
    exec (.rdsCapture fen gt gv) s = .next (waited s.env.params.tRdsPollMs .captureTest s) := by
  simp only [exec, execRdsCapture, hp, goto_delay_eq_waited]

/-- A capture goes on to its next deadline test after a group, one poll delay later (R241). -/
theorem captureGroup_ends {b n : Nat} {u : State} (ht : Timed s b u)
    (hnext : ∀ u, Timed s (b + s.env.params.tRdsPollMs) u →
      EndsWithin (· = .ok) (.rdsCapture fen gt gv) n (captureTestStep fen gt gv u)) :
    EndsWithin (· = .ok) (.rdsCapture fen gt gv) (n + 3) (captureGroup fen gt gv u) := by
  have hdelay (v : State) (hv : Timed s b v) (hp : v.pos = .captureDelay) :
      EndsWithin (· = .ok) (.rdsCapture fen gt gv) (n + 2) v := by
    refine .step (by rw [hp]; nofun) (exec_rdsCapture_captureDelay hp)
      (.step nofun (exec_rdsCapture_captureTest rfl) (hnext _ ?_))
    rw [← hv.params]
    exact (hv.delay _).goto .captureTest
  rcases captureGroup_cases fen gt gv u with ⟨_, h⟩ | ⟨_, h⟩ <;> rw [h]
  · exact .step nofun (exec_rdsCapture_captureEmit rfl)
      (hdelay _ (((ht.goto .captureEmit).emit _).goto .captureDelay) rfl)
  · exact (hdelay _ (ht.goto .captureDelay) rfl).succ

/-- A fetch cycle of a capture: it lasts a poll delay or more, and then the deadline test comes again (R241). -/
theorem captureCycle_ends {b n : Nat} (hle : s.env.params.tRdsPollMs ≤ s.env.params.tRdsMs)
    (hpos : 0 < s.env.params.tRdsPollMs) (ht : Timed s s.t0 s) (hb : b ≤ s.t0)
    (hnext : ∀ b' u, b + s.env.params.tRdsPollMs ≤ b' → Timed s b' u →
      EndsWithin (· = .ok) (.rdsCapture fen gt gv) n (captureTestStep fen gt gv u)) :
    EndsWithin (· = .ok) (.rdsCapture fen gt gv) (n + decodeSteps s.env.params.toTimingParams)
      (fetchPollStep (captureGroup fen gt gv) captureNone s) := by
  have hrounds := le_rounds_mul s.env.params.tRdsMs hpos
  have hsteps : n + decodeSteps s.env.params.toTimingParams =
      2 * rounds s.env.params.tRdsMs s.env.params.tRdsPollMs + (n + 3) := by
    rw [decodeSteps]
    omega
  rw [hsteps]
  refine fetchPoll_ends (b0 := b) (fun _ => exec_rdsCapture_fetchPoll) (fun _ => exec_rdsCapture_fetchDelay)
    (fun b' u hb' hu => captureGroup_ends hu fun v => hnext _ v (Nat.add_le_add_right hb' _))
    (fun b' u hb' hu => ?_) hb ht (by omega)
  exact .mono (.step nofun (exec_rdsCapture_captureTest rfl) (hnext b' _ (by omega) (hu.goto .captureTest)))
    (Nat.add_le_add_left (by decide : 1 ≤ 3) n)

/-- The deadline test of a capture and what follows it, when `k` more fetch cycles reach the end of its duration
(R241). -/
theorem captureTestStep_ends {k b : Nat} (hle : s.env.params.tRdsPollMs ≤ s.env.params.tRdsMs)
    (hpos : 0 < s.env.params.tRdsPollMs) (ht : Timed s b s)
    (hk : s.tc + s.argCur.toNat * s.env.params.captureUnitMs ≤ b + k * s.env.params.tRdsPollMs) :
    EndsWithin (· = .ok) (.rdsCapture fen gt gv) (decodeSteps s.env.params.toTimingParams * k)
      (captureTestStep fen gt gv s) := by
  induction k generalizing s b with
  | zero =>
    have hnow := ht.le_now
    rw [captureTestStep_expired fen gt gv (by omega)]
    exact .of_idle rfl (.inl ⟨rfl, rfl⟩)
  | succ k ih =>
    by_cases hleft : s.nowAnswer < s.tc + s.argCur.toNat * s.env.params.captureUnitMs
    case neg =>
      rw [captureTestStep_expired fen gt gv hleft]
      exact .of_idle rfl (.inl ⟨rfl, rfl⟩)
    case pos =>
      rw [captureTestStep_running fen gt gv hleft, Nat.mul_succ]
      refine captureCycle_ends (s := sampleT0 s.tickNow) hle hpos (.of_sampleT0 _)
        (ht.le_now.trans ht.tickNow.le_now) fun b' u (hb' : b + s.env.params.tRdsPollMs ≤ b') hu => ?_
      obtain ⟨hpar, htc, harg⟩ : u.env.params = s.env.params ∧ u.tc = s.tc ∧ u.argCur = s.argCur :=
        ⟨hu.params, hu.tc, hu.argCur⟩
      rw [Nat.succ_mul] at hk
      rw [← hpar] at hle hpos hk hb' ⊢
      rw [← htc, ← harg] at hk
      exact ih hle hpos ⟨rfl, rfl, rfl, rfl, hu.clock⟩ (by omega)

/-- RDS_CAPTURE ends within its bound (R241). -/
theorem rdsCapture_ends (hp : s.pos = .start) (hpos : 0 < s.env.params.tRdsPollMs)
    (hle : s.env.params.tRdsPollMs ≤ s.env.params.tRdsMs) :
    EndsWithin (· = .ok) (.rdsCapture fen gt gv) (captureSteps s.env.params.toTimingParams s.argCur.toNat) s :=
  .step (by rw [hp]; nofun) (exec_rdsCapture_start hp) (captureTestStep_ends (s := sampleTc s) hle hpos (.of_sampleTc s)
    (Nat.add_le_add_left (le_rounds_mul _ hpos) s.nowAnswer))

/-- Settles O59: each fetch cycle lasts a poll interval or more, so `rounds` cycles reach the end of the duration. -/
theorem rdsCaptureEndsWithinItsBound : Obligations.RdsCaptureEndsWithinItsBound := by
  refine ⟨fun fen gt gv s hp hpos hle => rdsCapture_ends hp hpos hle, fun arg => ?_⟩
  have hcycles : rounds (arg * 100) 10 = arg * 10 := by
    unfold rounds
    omega
  show 203 * rounds (arg * 100) 10 + 1 = _
  rw [hcycles]

end

end Sys2Proof.Machine
end

section
/-! SUPPORT. The calendar of group 4A (43_rds_decoder.md R226, R227): the integer conversion is the source's rational one, and
the guard passes one range of day counts. -/

namespace Sys2Proof.Machine

/-! ## The rational formula -/

/-- A floor of a quotient of integers is their floor division. -/
theorem floor_eq_ediv {q : ℚ} {n : Int} {d : Nat} (hq : q = (n : ℚ) / (d : ℚ)) : ⌊q⌋ = n / d := by
  rw [hq, Rat.floor_intCast_div_natCast]

/-- The year number of a day count (R226). -/
def mjdYear (m : Int) : Int := (100 * m - 1507820) / 36525

/-- The days of that many years (R226). -/
def mjdYearDays (m : Int) : Int := mjdYear m * 36525 / 100

/-- The month number of a day count (R226). -/
def mjdMonth (m : Int) : Int := (10000 * m - 149561000 - 10000 * mjdYearDays m) / 306001

/-- The day of the month of a day count (R226). -/
def mjdDay (m : Int) : Int := m - 14956 - mjdYearDays m - mjdMonth m * 306001 / 10000

theorem floor_mjdYear (m : Nat) : ⌊((m : ℚ) - 15078.2) / 365.25⌋ = mjdYear m :=
  floor_eq_ediv (n := 100 * m - 1507820) (d := 36525) (by push_cast; ring)

theorem floor_mjdYearDays (m : Int) : ⌊(mjdYear m : ℚ) * 365.25⌋ = mjdYearDays m :=
  floor_eq_ediv (n := mjdYear m * 36525) (d := 100) (by push_cast; ring)

theorem floor_mjdMonth (m : Nat) : ⌊((m : ℚ) - 14956.1 - mjdYearDays m) / 30.6001⌋ = mjdMonth m :=
  floor_eq_ediv (n := 10000 * m - 149561000 - 10000 * mjdYearDays m) (d := 306001) (by push_cast; ring)

theorem floor_mjdMonthDays (m : Int) : ⌊(mjdMonth m : ℚ) * 30.6001⌋ = mjdMonth m * 306001 / 10000 :=
  floor_eq_ediv (n := mjdMonth m * 306001) (d := 10000) (by push_cast; ring)

theorem mjdToDate_eq (m : Int) : mjdToDate m =
    if mjdMonth m = 14 ∨ mjdMonth m = 15 then ⟨mjdYear m + 1 + 1900, mjdMonth m - 1 - 12, mjdDay m, (m + 2) % 7⟩
    else ⟨mjdYear m + 1900, mjdMonth m - 1, mjdDay m, (m + 2) % 7⟩ := by
  show (⟨(if mjdMonth m = 14 ∨ mjdMonth m = 15 then mjdYear m + 1 else mjdYear m) + 1900,
    if mjdMonth m = 14 ∨ mjdMonth m = 15 then mjdMonth m - 1 - 12 else mjdMonth m - 1, mjdDay m, (m + 2) % 7⟩ : Date) = _
  split <;> rfl

theorem mjdToDate_eq_dateOf (m : Nat) : mjdToDate m = dateOf m := by
  simp only [dateOf, floor_mjdYear, floor_mjdYearDays, floor_mjdMonth, floor_mjdMonthDays]
  exact mjdToDate_eq m

/-! ## The ranges -/

/-- The day within the year that a day count leaves, counted from March as the formula does. -/
def mjdYearDay (m : Int) : Int := m - 14956 - mjdYearDays m

theorem mjdYearDay_range (m : Int) : 123 ≤ mjdYearDay m ∧ mjdYearDay m ≤ 488 := by
  unfold mjdYearDay mjdYearDays mjdYear
  omega

theorem mjdMonth_eq (m : Int) : mjdMonth m = (10000 * mjdYearDay m - 1000) / 306001 := by
  unfold mjdMonth mjdYearDay
  congr 1
  ring

theorem mjdMonth_range (m : Int) : 4 ≤ mjdMonth m ∧ mjdMonth m ≤ 15 := by
  have hday := mjdYearDay_range m
  rw [mjdMonth_eq]
  omega

/-- January and February are the months 14 and 15 of the year before. -/
theorem mjdMonth_wraps_iff (m : Int) : (mjdMonth m = 14 ∨ mjdMonth m = 15) ↔ 429 ≤ mjdYearDay m := by
  have hday := mjdYearDay_range m
  rw [mjdMonth_eq]
  omega

theorem mjdDay_range (m : Int) : 1 ≤ mjdDay m ∧ mjdDay m ≤ 31 := by
  have hmonth := mjdMonth_range m
  have heq := mjdMonth_eq m
  have hday : mjdDay m = mjdYearDay m - mjdMonth m * 306001 / 10000 := rfl
  rw [hday]
  omega

theorem mjdToDate_month (m : Int) : 1 ≤ (mjdToDate m).month ∧ (mjdToDate m).month ≤ 12 := by
  have hmonth := mjdMonth_range m
  rw [mjdToDate_eq]
  split <;> dsimp only <;> omega

theorem mjdToDate_day (m : Int) : (mjdToDate m).day = mjdDay m := by
  rw [mjdToDate_eq]
  split <;> rfl

theorem mjdToDate_year (m : Int) :
    (mjdToDate m).year = if 429 ≤ mjdYearDay m then mjdYear m + 1901 else mjdYear m + 1900 := by
  rw [mjdToDate_eq]
  simp only [mjdMonth_wraps_iff]
  split
  · exact add_assoc (mjdYear m) 1 1900
  · rfl

/-- The years 2000 to 2099 are one range of day counts (R227). -/
theorem mjdToDate_year_iff (m : Int) :
    2000 ≤ (mjdToDate m).year ∧ (mjdToDate m).year ≤ 2099 ↔ 51544 ≤ m ∧ m ≤ 88068 := by
  rw [mjdToDate_year]
  unfold mjdYearDay mjdYearDays mjdYear
  split <;> omega

theorem dateOk_iff (y mo d : Int) :
    dateOk y mo d = true ↔ 2000 ≤ y ∧ y ≤ 2099 ∧ 1 ≤ mo ∧ mo ≤ 12 ∧ 1 ≤ d ∧ d ≤ 31 := decide_eq_true_iff

/-- Settles O54: the floors are integer divisions, and the day within the year lies in 123 to 488. -/
theorem dateGuardPassesOneRange : Obligations.DateGuardPassesOneRange := by
  refine ⟨dateOk_iff, fun m _ => ?_⟩
  obtain ⟨hmonth1, hmonth12⟩ := mjdToDate_month m
  obtain ⟨hday1, hday31⟩ := mjdToDate_day m ▸ mjdDay_range m
  refine ⟨mjdToDate_eq_dateOf m, hmonth1, hmonth12, hday1, hday31, ?_⟩
  have hyear := mjdToDate_year_iff m
  rw [dateOk_iff]
  omega

end Sys2Proof.Machine
end

section
/-! SUPPORT. The segment write AccWrite (43_rds_decoder.md R229), on one accumulator and then on the state. -/

namespace Sys2Proof.Machine

/-! ## One buffer -/

section
variable {w segs : Nat}

theorem getElem_fillSlots (slots : Vector Slot w) (k : Nat) (cs : List Byte) {j : Nat} (hj : j < w) :
    (fillSlots slots k cs)[j] = if k ≤ j ∧ j < k + cs.length then ⟨true, cs.getD (j - k) 0⟩ else slots[j] := by
  induction cs generalizing slots k with
  | nil =>
    rw [if_neg (by simp only [List.length_nil]; omega)]
    rfl
  | cons c cs ih =>
    rw [fillSlots, ih, Vector.getElem_setIfInBounds hj, List.length_cons]
    obtain hlt | rfl | hgt := lt_trichotomy j k
    · rw [if_neg (by omega), if_neg (by omega), if_neg (by omega)]
    · rw [if_neg (by omega), if_pos rfl, if_pos (by omega), Nat.sub_self]
      rfl
    · have hidx : j - k = j - (k + 1) + 1 := by omega
      rw [if_neg (show ¬ k = j by omega), hidx, List.getD_cons_succ]
      congr 1
      simp only [eq_iff_iff]
      omega

/-- The slots of a buffer after a segment is put into it (R229). -/
theorem slotAt_put (t : TextBuf w segs) (seg : Nat) (cs : List Byte) {k : Nat} (hk : k < w) :
    (t.put seg cs).slotAt k =
      if seg * cs.length ≤ k ∧ k < seg * cs.length + cs.length then ⟨true, cs.getD (k - seg * cs.length) 0⟩
      else t.slotAt k := by
  simp [TextBuf.slotAt, TextBuf.put, Vector.getD, hk, getElem_fillSlots]

/-- The markers of a buffer after a segment is put into it (R229). -/
theorem getLsbD_recv_put (t : TextBuf w segs) (seg : Nat) (cs : List Byte) {k : Nat} (hk : k < segs) :
    (t.put seg cs).recv.getLsbD k = (decide (k = seg) || t.recv.getLsbD k) := by
  have hbit : (((1 <<< seg : Nat) : BitVec segs)).getLsbD k = decide (k = seg) := by
    rw [Nat.one_shiftLeft, BitVec.natCast_eq_ofNat, BitVec.getLsbD_ofNat, decide_eq_true hk, Nat.testBit_two_pow,
      Bool.true_and]
    exact decide_eq_decide.2 eq_comm
  rw [TextBuf.put, BitVec.getLsbD_or, hbit, Bool.or_comm]

/-- Putting the same segment again changes nothing (R229). -/
theorem put_put (t : TextBuf w segs) (seg : Nat) (cs : List Byte) : (t.put seg cs).put seg cs = t.put seg cs := by
  have hslots : ((t.put seg cs).put seg cs).slots = (t.put seg cs).slots := by
    ext1 k hk
    show (fillSlots (fillSlots t.slots _ cs) _ cs)[k] = (fillSlots t.slots _ cs)[k]
    rw [getElem_fillSlots _ _ _ hk, getElem_fillSlots _ _ _ hk]
    split <;> rfl
  have hrecv : ((t.put seg cs).put seg cs).recv = (t.put seg cs).recv := by
    simp only [TextBuf.put, BitVec.or_assoc, BitVec.or_self]
  exact congrArg₂ TextBuf.mk hslots hrecv

/-! ## One accumulator -/

/-- The buffer a segment write starts from: the one that receives, cleared first on a flag transition (R229). -/
def Accum.receiving (a : Accum w segs) (flag : BufId) : TextBuf w segs :=
  if flag = a.cur then a.buf flag else TextBuf.empty w segs

variable (a : Accum w segs) (flag : BufId) (seg : Nat) (cs : List Byte)

theorem write_eq : a.write flag seg cs = { a.setBuf flag ((a.receiving flag).put seg cs) with cur := flag } := by
  unfold Accum.write Accum.receiving
  split
  case isTrue h => cases flag <;> simp only [Accum.setBuf, h]
  case isFalse h => rfl

theorem buf_write : (a.write flag seg cs).buf flag = (a.receiving flag).put seg cs := by
  rw [write_eq]
  cases flag <;> rfl

theorem write_write : (a.write flag seg cs).write flag seg cs = a.write flag seg cs := by
  have hreceiving : (a.write flag seg cs).receiving flag = (a.receiving flag).put seg cs := by
    rw [Accum.receiving, write_cur, if_pos rfl, buf_write]
  rw [write_eq (a.write flag seg cs), hreceiving, put_put, write_eq a]
  cases flag <;> rfl

theorem slotAt_receiving (k : Nat) :
    (a.receiving flag).slotAt k = if flag = a.cur then (a.buf flag).slotAt k else ⟨false, 0⟩ := by
  unfold Accum.receiving
  split
  · rfl
  · exact TextBuf.slotAt_empty w segs k

theorem getLsbD_recv_receiving (k : Nat) : (a.receiving flag).recv.getLsbD k =
    (decide (flag = a.cur) && (a.buf flag).recv.getLsbD k) := by
  unfold Accum.receiving
  by_cases h : flag = a.cur
  · simp [h]
  · simp [h]

end

/-! ## The state -/

section
variable (acc : AccId) (flag : BufId) (seg : Nat) (cs : List Byte) (s : State)

theorem accWrite_eq_withAcc :
    accWrite acc flag seg cs s = { s with acc := (accWrite acc flag seg cs s).acc } := by cases acc <;> rfl

theorem slotOf_accWrite {k : Nat} (hk : k < textWidth acc) : (accWrite acc flag seg cs s).slotOf acc flag k =
    if seg * cs.length ≤ k ∧ k < seg * cs.length + cs.length then ⟨true, cs.getD (k - seg * cs.length) 0⟩
    else if flag = s.curFlagOf acc then s.slotOf acc flag k else ⟨false, 0⟩ := by
  have hslot {w segs : Nat} (a : Accum w segs) (hw : k < w) : ((a.write flag seg cs).buf flag).slotAt k =
      if seg * cs.length ≤ k ∧ k < seg * cs.length + cs.length then ⟨true, cs.getD (k - seg * cs.length) 0⟩
      else if flag = a.cur then (a.buf flag).slotAt k else ⟨false, 0⟩ := by
    rw [buf_write, slotAt_put _ _ _ hw, slotAt_receiving]
  cases acc <;> exact hslot _ hk

theorem recvOf_accWrite {k : Nat} (hk : k < segmentCount acc) :
    ((accWrite acc flag seg cs s).recvOf acc flag).getLsbD k =
      (decide (k = seg) || (decide (flag = s.curFlagOf acc) && (s.recvOf acc flag).getLsbD k)) := by
  have hrecv {w segs : Nat} (a : Accum w segs) (hle : segs ≤ 16) (hs : k < segs) :
      (((a.write flag seg cs).buf flag).recv.setWidth 16).getLsbD k =
        (decide (k = seg) || (decide (flag = a.cur) && ((a.buf flag).recv.setWidth 16).getLsbD k)) := by
    simp [buf_write, getLsbD_recv_put _ _ _ hs, getLsbD_recv_receiving, hs.trans_le hle]
  cases acc <;> exact hrecv _ (by decide) hk

theorem curFlagOf_accWrite : (accWrite acc flag seg cs s).curFlagOf acc = flag := by
  cases acc <;> exact write_cur _ flag seg cs

theorem accWrite_keeps_buffer {g : BufId} (hg : g ≠ flag) (k : Nat) :
    (accWrite acc flag seg cs s).slotOf acc g k = s.slotOf acc g k ∧
      (accWrite acc flag seg cs s).recvOf acc g = s.recvOf acc g := by
  have hother {w segs : Nat} (a : Accum w segs) : ((a.write flag seg cs).buf g).slotAt k = (a.buf g).slotAt k ∧
      ((a.write flag seg cs).buf g).recv.setWidth 16 = (a.buf g).recv.setWidth 16 := by
    rw [write_other_buf a flag g seg cs hg]
    exact ⟨rfl, rfl⟩
  cases acc <;> exact hother _

theorem accWrite_keeps_others {other : AccId} (hne : other ≠ acc) (g : BufId) (k : Nat) :
    (accWrite acc flag seg cs s).slotOf other g k = s.slotOf other g k ∧
      (accWrite acc flag seg cs s).recvOf other g = s.recvOf other g ∧
      (accWrite acc flag seg cs s).curFlagOf other = s.curFlagOf other := by
  cases acc <;> cases other <;> simp [accWrite, State.slotOf, State.recvOf, State.curFlagOf] at hne ⊢

theorem accWrite_accWrite : accWrite acc flag seg cs (accWrite acc flag seg cs s) = accWrite acc flag seg cs s := by
  cases acc <;> simp only [accWrite, write_write]

end

/-- Settles O49: the write on one accumulator, for each of the four. -/
theorem segmentWriteFillsOneSegment : Obligations.SegmentWriteFillsOneSegment := by
  intro acc flag seg cs s _ _
  have heq := accWrite_eq_withAcc acc flag seg cs s
  refine ⟨_, heq, ?_⟩
  rw [← heq]
  exact ⟨fun _ => slotOf_accWrite acc flag seg cs s, fun _ => recvOf_accWrite acc flag seg cs s,
    curFlagOf_accWrite acc flag seg cs s, fun _ k hg => accWrite_keeps_buffer acc flag seg cs s hg k,
    fun _ g k hne => accWrite_keeps_others acc flag seg cs s hne g k, accWrite_accWrite acc flag seg cs s⟩

end Sys2Proof.Machine
end

section
/-! SUPPORT. The group decoder by class (43_rds_decoder.md R212 to R228): which rule each of the 32 classes runs, and the
layouts of the groups as bits of the blocks. -/

namespace Sys2Proof.Machine

/-! ## Bits of a block -/

theorem toNat_extractLsb_eq (w : Word) (hi lo : Nat) :
    (w.extractLsb hi lo).toNat = w.toNat / 2 ^ lo % 2 ^ (hi - lo + 1) := by
  rw [BitVec.extractLsb_toNat, Nat.shiftRight_eq_div_pow]

theorem toNat_append_eq {m n : Nat} (x : BitVec m) (y : BitVec n) : (x ++ y).toNat = x.toNat * 2 ^ n + y.toNat := by
  rw [BitVec.toNat_append, ← Nat.shiftLeft_add_eq_or_of_lt y.isLt, Nat.shiftLeft_eq]

theorem extractLsb'_one_eq_ofBool (w : Word) (k : Nat) : w.extractLsb' k 1 = BitVec.ofBool (w.getLsbD k) := by
  apply BitVec.eq_of_getLsbD_eq
  intro j hj
  obtain rfl : j = 0 := Nat.lt_one_iff.1 hj
  simp

theorem bufOfBit_extract (w : Word) : bufOfBit (w.extractLsb 4 4) = if w.getLsbD 4 then .b else .a := by
  rw [show w.extractLsb 4 4 = BitVec.ofBool (w.getLsbD 4) from extractLsb'_one_eq_ofBool w 4]
  cases w.getLsbD 4 <;> rfl

/-! ## The rule of each class -/

/-- The classes with a rule of their own (43_rds_decoder.md R212), as type and version. -/
def ruledClasses : List (BitVec 5) :=
  [0b00000, 0b00010, 0b00011, 0b00100, 0b00110, 0b01000, 0b01110, 0b10100, 0b11100]

/-- `DispatchesTo a b c d s cls t`: the group of class `cls` with these blocks takes `s` to `t` (R212, R218). -/
inductive DispatchesTo (a b c d : Word) (s : State) : BitVec 5 → State → Prop
  | basicTuning : DispatchesTo a b c d s 0b00000 (group0A b c d s)
  | programItemA : b.extractLsb 11 11 = 0 → DispatchesTo a b c d s 0b00010 (group1 b c d s)
  | programItemB : b.extractLsb 11 11 = 1 → DispatchesTo a b c d s 0b00011 (group1 b c d s)
  | radioText : DispatchesTo a b c d s 0b00100 (group2A b c d s)
  | openData : DispatchesTo a b c d s 0b00110 (group3A b c d s)
  | clock : DispatchesTo a b c d s 0b01000 (group4A b c d s)
  | paging : DispatchesTo a b c d s 0b01110 (group7A b c d s)
  | typeName : DispatchesTo a b c d s 0b10100 (group10A b c d s)
  | otherNetworks : DispatchesTo a b c d s 0b11100 (group14A b c d s)
  | unrecognized (cls : BitVec 5) : cls ∉ ruledClasses → DispatchesTo a b c d s cls (groupUnrec a b c d s)

theorem mem_ruledClasses_iff (cls : BitVec 5) : cls ∈ ruledClasses ↔
    cls.toNat / 2 = 1 ∨ (cls.toNat % 2 = 0 ∧ cls.toNat / 2 ∈ [0, 2, 3, 4, 7, 10, 14]) := by
  revert cls
  decide

/-- Type and version of a block B, from its class (30_encoding.md R98). -/
theorem type_and_version (b : Word) :
    (b.extractLsb 15 12).toNat = (b.extractLsb 15 11).toNat / 2 ∧
      (b.extractLsb 11 11).toNat = (b.extractLsb 15 11).toNat % 2 := by
  simp only [toNat_extractLsb_eq]
  omega

theorem verOfBit_eq (v : BitVec 1) : verOfBit v = if v.toNat = 0 then .a else .b := by
  revert v
  decide

theorem dispatchGroup_dispatchesTo (a b c d : Word) (s : State) :
    DispatchesTo a b c d s (b.extractLsb 15 11) (dispatchGroup a b c d s) := by
  obtain ⟨htype, hbit⟩ := type_and_version b
  rw [dispatchGroup, htype, verOfBit_eq, hbit]
  generalize b.extractLsb 15 11 = cls at hbit
  by_cases hruled : cls ∈ ruledClasses
  case pos =>
    simp only [ruledClasses, List.mem_cons, List.not_mem_nil, or_false] at hruled
    rcases hruled with rfl | rfl | rfl | rfl | rfl | rfl | rfl | rfl | rfl
    · exact .basicTuning
    · exact .programItemA (BitVec.eq_of_toNat_eq hbit)
    · exact .programItemB (BitVec.eq_of_toNat_eq hbit)
    · exact .radioText
    · exact .openData
    · exact .clock
    · exact .paging
    · exact .typeName
    · exact .otherNetworks
  case neg =>
    have hother := mt (mem_ruledClasses_iff cls).2 hruled
    split
    case h_9 => exact .unrecognized cls hruled
    case h_2 hg => exact absurd (.inl hg) hother
    all_goals
      next hg hv =>
        refine absurd (.inr ⟨?_, ?_⟩) hother
        · simpa using hv
        · simp [hg]

/-! ## The identity -/

section
variable {s : State}

/-- Settles O51: whatever the class, a decode has one shape. -/
theorem decodeSetsTheIdentity : Obligations.DecodeSetsTheIdentity := by
  intro s hp
  obtain ⟨acc, es, hlen, hdecode⟩ := decodeBlocks_shape (s.reg 0xC) (s.reg 0xD) (s.reg 0xE) (s.reg 0xF) s
  have hexec := exec_rdsDecode_decodeGroup hp
  rw [decodeStep, hdecode] at hexec
  exact ⟨_, es, hexec, rfl, rfl, toNat_extractLsb_eq _ 9 5, toNat_extractLsb_eq _ 10 10, rfl, hlen, rfl⟩

end

/-! ## The text of a group -/

section
variable (b c d : Word) (s : State)

theorem group0A_acc : (group0A b c d s).acc =
    (accWrite .ps .a (b.toNat % 4) [d.extractLsb 15 8, d.extractLsb 7 0] s).acc := by
  rw [group0A, toNat_extractLsb_eq, pow_zero, Nat.div_one]
  rfl

/-- The flag of a text group is B[4] (R215, R216). -/
def textFlag (b : Word) : BufId := if b.getLsbD 4 then .b else .a

/-- The four characters of blocks C and D (R215, R216). -/
def textChars (c d : Word) : List Byte := [c.extractLsb 15 8, c.extractLsb 7 0, d.extractLsb 15 8, d.extractLsb 7 0]

theorem group2A_eq : group2A b c d s = accWrite .rt (textFlag b) (b.toNat % 16) (textChars c d) s := by
  rw [group2A, bufOfBit_extract, toNat_extractLsb_eq, pow_zero, Nat.div_one]
  rfl

theorem group7A_eq : group7A b c d s = accWrite .paging (textFlag b) (b.toNat % 16) (textChars c d) s := by
  rw [group7A, bufOfBit_extract, toNat_extractLsb_eq, pow_zero, Nat.div_one]
  rfl

theorem group10A_eq : group10A b c d s = accWrite .ptyn (textFlag b) (b.toNat % 2) (textChars c d) s := by
  rw [group10A, bufOfBit_extract, toNat_extractLsb_eq, pow_zero, Nat.div_one]
  rfl

theorem group4A_acc : (group4A b c d s).acc = s.acc := by
  rw [group4A, emitClock]
  split <;> rfl

end

/-- Settles O52: by the rule that the class runs. -/
theorem groupTextGoesToItsAccumulator : Obligations.GroupTextGoesToItsAccumulator := by
  intro s hp b c d flag text
  refine ⟨_, exec_rdsDecode_decodeGroup hp, ?_⟩
  have hrule := dispatchGroup_dispatchesTo (s.reg 0xC) b c d (extractIdentity (s.reg 0xC) b s)
  show (dispatchGroup (s.reg 0xC) b c d (extractIdentity (s.reg 0xC) b s)).acc = _
  generalize dispatchGroup (s.reg 0xC) b c d (extractIdentity (s.reg 0xC) b s) = t at hrule ⊢
  generalize b.extractLsb 15 11 = cls at hrule ⊢
  cases hrule with
  | basicTuning => exact group0A_acc b c d _
  | programItemA => rfl
  | programItemB => rfl
  | radioText => exact (congrArg State.acc (group2A_eq b c d _)).trans rfl
  | openData => rfl
  | clock => exact group4A_acc b c d _
  | paging => exact (congrArg State.acc (group7A_eq b c d _)).trans rfl
  | typeName => exact (congrArg State.acc (group10A_eq b c d _)).trans rfl
  | otherNetworks => rfl
  | unrecognized cls hother =>
    simp only [ruledClasses, List.mem_cons, List.not_mem_nil, or_false, not_or] at hother
    obtain ⟨h0A, _, _, h2A, _, _, h7A, h10A, _⟩ := hother
    exact ((if_neg h0A).trans ((if_neg h2A).trans ((if_neg h7A).trans (if_neg h10A)))).symm

/-! ## The event of a group -/

section
variable (a b c d : Word) (s : State)

theorem afFreq_eq (v : Byte) : afFreq v = BitVec.ofNat 16 (v.toNat + 875) := by
  apply BitVec.eq_of_toNat_eq
  simp [afFreq]

theorem slTag_eq (v : BitVec 3) : slTag v = slTags.getD v.toNat .reserved := by
  revert v
  decide

theorem eonTag_eq (v : BitVec 4) : eonTag v = eonTags.getD v.toNat .reserved := by
  revert v
  decide

theorem group0A_events : (group0A b c d s).events = s.events ++
    [.grp0a (b.extractLsb 1 0) (b.extractLsb 4 4) (b.extractLsb 3 3) (b.extractLsb 2 2)
      (BitVec.ofNat 16 (c.toNat / 256 + 875)) (BitVec.ofNat 16 (c.toNat % 256 + 875)) (d.extractLsb 15 8)
      (d.extractLsb 7 0)] := by
  have hhigh : (c.extractLsb 15 8).toNat = c.toNat / 256 := by
    rw [toNat_extractLsb_eq]
    omega
  have hlow : (c.extractLsb 7 0).toNat = c.toNat % 256 := by
    rw [toNat_extractLsb_eq]
    omega
  simp [group0A, afFreq_eq, hhigh, hlow]

theorem slowLabel_eq : slowLabel c =
    ⟨c.extractLsb 15 15, c.extractLsb 14 12, c.extractLsb 11 0, slTags.getD (c.toNat / 2 ^ 12 % 8) .reserved⟩ := by
  rw [slowLabel, slTag_eq, toNat_extractLsb_eq]
  rfl

theorem group1_events_a (h : b.extractLsb 11 11 = 0) : (group1 b c d s).events = s.events ++
    [.grp1 0 (d.extractLsb 15 11) (d.extractLsb 10 6) (d.extractLsb 5 0)
      (some ⟨c.extractLsb 15 15, c.extractLsb 14 12, c.extractLsb 11 0,
        slTags.getD (c.toNat / 2 ^ 12 % 8) .reserved⟩)] := by
  rw [group1, h, slowLabel_eq]
  rfl

theorem group1_events_b (h : b.extractLsb 11 11 = 1) : (group1 b c d s).events = s.events ++
    [.grp1 1 (d.extractLsb 15 11) (d.extractLsb 10 6) (d.extractLsb 5 0) none] := by
  rw [group1, h]
  rfl

theorem accWrite_events_keeps (acc : AccId) (flag : BufId) (seg : Nat) (cs : List Byte) :
    (accWrite acc flag seg cs s).events = s.events ++ [] := by
  rw [accWrite_events, List.append_nil]

theorem mjdOf_toNat : (mjdOf b c).toNat = (b.toNat % 4) * 2 ^ 15 + c.toNat / 2 := by
  have hlt := c.isLt
  rw [mjdOf, toNat_append_eq, toNat_extractLsb_eq, toNat_extractLsb_eq]
  omega

theorem utcHour_eq : utcHour c d = BitVec.ofNat 5 ((c.toNat % 2) * 16 + d.toNat / 2 ^ 12) := by
  have hlt := d.isLt
  apply BitVec.eq_of_toNat_eq
  rw [utcHour, toNat_append_eq, toNat_extractLsb_eq, toNat_extractLsb_eq, BitVec.toNat_ofNat]
  omega

theorem localOffset_eq : localOffset d =
    if d.getLsbD 5 then -((d.toNat % 32 : Nat) : Int) else ((d.toNat % 32 : Nat) : Int) := by
  rw [localOffset, show d.extractLsb 5 5 = BitVec.ofBool (d.getLsbD 5) from extractLsb'_one_eq_ofBool d 5,
    toNat_extractLsb_eq, pow_zero, Nat.div_one]
  cases d.getLsbD 5 <;> rfl

/-- The date of group 4A, when the guard passes (R226 to R228). -/
theorem group4A_events {m : Nat} (hm : (b.toNat % 4) * 2 ^ 15 + c.toNat / 2 = m) :
    (group4A b c d s).events = s.events ++
      if 2000 ≤ (dateOf m).year ∧ (dateOf m).year ≤ 2099 ∧ 1 ≤ (dateOf m).month ∧ (dateOf m).month ≤ 12 ∧
          1 ≤ (dateOf m).day ∧ (dateOf m).day ≤ 31 then
        [.clock (BitVec.ofInt 16 (dateOf m).year) (BitVec.ofInt 4 (dateOf m).month) (BitVec.ofInt 5 (dateOf m).day)
          (BitVec.ofInt 3 (dateOf m).weekday) (BitVec.ofNat 5 ((c.toNat % 2) * 16 + d.toNat / 2 ^ 12))
          (d.extractLsb 11 6)
          (if d.getLsbD 5 then -((d.toNat % 32 : Nat) : Int) else ((d.toNat % 32 : Nat) : Int))]
      else [] := by
  rw [group4A, mjdOf_toNat, hm, mjdToDate_eq_dateOf, emitClock, ← utcHour_eq, ← localOffset_eq]
  simp only [dateOk_iff]
  split
  · rfl
  · exact (List.append_nil _).symm

theorem group14A_events : (group14A b c d s).events = s.events ++
    [.grp14a (b.extractLsb 4 4) (b.extractLsb 3 0) c d (eonTags.getD (b.toNat % 16) .reserved)] := by
  rw [group14A, eonTag_eq, toNat_extractLsb_eq, pow_zero, Nat.div_one]
  rfl

end

/-- Settles O53: by the rule that the class runs. -/
theorem groupEventsByClass : Obligations.GroupEventsByClass := by
  intro s hp a b c d cls mjd date
  refine ⟨_, exec_rdsDecode_decodeGroup hp, ?_⟩
  have hrule := dispatchGroup_dispatchesTo a b c d (extractIdentity a b s)
  show (dispatchGroup a b c d (extractIdentity a b s)).events = _
  generalize dispatchGroup a b c d (extractIdentity a b s) = t at hrule ⊢
  have hcls : b.extractLsb 15 11 = cls := rfl
  clear_value cls
  rw [hcls] at hrule
  cases hrule with
  | basicTuning => exact group0A_events b c d _
  | programItemA hver => exact group1_events_a b c d _ hver
  | programItemB hver => exact group1_events_b b c d _ hver
  | radioText => exact (congrArg State.events (group2A_eq b c d _)).trans (accWrite_events_keeps _ _ _ _ _)
  | openData => rfl
  | clock => exact group4A_events b c d _ rfl
  | paging => exact (congrArg State.events (group7A_eq b c d _)).trans (accWrite_events_keeps _ _ _ _ _)
  | typeName => exact (congrArg State.events (group10A_eq b c d _)).trans (accWrite_events_keeps _ _ _ _ _)
  | otherNetworks => exact group14A_events b c d _
  | unrecognized cls hother =>
    simp only [ruledClasses, List.mem_cons, List.not_mem_nil, or_false, not_or] at hother
    obtain ⟨h0A, h1A, h1B, h2A, h3A, h4A, h7A, h10A, h14A⟩ := hother
    have htext : ¬ (cls = 0b00100 ∨ cls = 0b01110 ∨ cls = 0b10100) := fun h => h.elim h2A (·.elim h7A h10A)
    rw [if_neg h0A, if_neg h1A, if_neg h1B, if_neg h3A, if_neg h4A, if_neg h14A, if_neg htext]
    rfl

end Sys2Proof.Machine
end

section
/-! SUPPORT. The runs of RDS_DECODE and RDS_CAPTURE (43_rds_decoder.md R210, R240, R241) on a device that answers. -/

namespace Sys2Proof.Machine

/-! ## RDS_DECODE on a ready group -/

section
variable {s t : State} {b : List Byte} {group none : State → State}

/-- A fetch poll with RDSR = 1 goes on with the group (R210). -/
theorem fetchPollStep_ready (hread : s.env.peekRead = .bytes b) (hlen : b.length = 32)
    (hready : (b.getD 0 0).getLsbD 7 = true) : fetchPollStep group none s = group (afterRead b s) := by
  obtain ⟨hrdsr, _, _⟩ := flags_afterRead b s
  rw [fetchPollStep, readAll_ok _ hread hlen, fetchTest, hrdsr, hready]
  rfl

/-- Block A of the group a read holds (R62, R210). -/
theorem holdsStream.blockA (h : holdsStream t b) : t.reg 0xC = b.getD 4 0 ++ b.getD 5 0 := h 2 (by decide)

/-- Settles O55: the first poll ends the fetch, and the group is decoded from that read. -/
theorem rdsDecodeRunsOnOneGroup : Obligations.RdsDecodeRunsOnOneGroup := by
  intro s b hp hread hlen hready
  have hfirst := (exec_rdsDecode_start hp).trans
    (congrArg _ (fetchPollStep_ready (s := sampleT0 s) (group := decodeNext) (none := decodeTimeout) hread hlen hready))
  have hpoll := readTo_goto .decodeGroup b (sampleT0 s)
  change exec .rdsDecode s = .next (goto .decodeGroup (afterRead b (sampleT0 s))) at hfirst
  generalize goto .decodeGroup (afterRead b (sampleT0 s)) = t1 at hfirst hpoll
  obtain ⟨hbytes, hstream⟩ : readBytes (sampleT0 s) t1 b ∧ holdsStream t1 b := ⟨hpoll.bytes, hpoll.stream⟩
  have hsecond := exec_rdsDecode_decodeGroup hpoll.pos
  obtain ⟨acc, es, _, hdecode⟩ := decodeBlocks_shape (t1.reg 0xC) (t1.reg 0xD) (t1.reg 0xE) (t1.reg 0xF) t1
  rw [decodeStep, hdecode] at hsecond
  have hpi := hstream.blockA
  obtain ⟨x, bus, n, rfl⟩ := hpoll.exists_eq
  exact ⟨_, _, _, hfirst, hsecond, exec_rdsDecode_finish rfl, hstream, hbytes, rfl, rfl, rfl, rfl, hpi, rfl, rfl, rfl,
    rfl, rfl⟩

end

/-! ## RDS_CAPTURE -/

section
variable {s : State} {b : List Byte} (fen : Bool) (gt : BitVec 4) (gv : GroupVer)

theorem captureGroup_withPos (s : State) (p : SeqPos) :
    captureGroup fen gt gv { s with pos := p } = captureGroup fen gt gv s := rfl

/-- The deadline test of a capture does not depend on the position it is made at (R241). -/
theorem captureTestStep_withPos (s : State) (p : SeqPos) :
    captureTestStep fen gt gv { s with pos := p } = captureTestStep fen gt gv s := by
  by_cases hleft : s.nowAnswer < s.tc + s.argCur.toNat * s.env.params.captureUnitMs
  · rw [captureTestStep_running fen gt gv hleft, captureTestStep_running (s := { s with pos := p }) fen gt gv hleft]
    exact fetchPollStep_withPos _ _ (sampleT0 s.tickNow) p (captureGroup_withPos fen gt gv) (fun _ _ => rfl)
  · rw [captureTestStep_expired fen gt gv hleft, captureTestStep_expired (s := { s with pos := p }) fen gt gv hleft]
    rfl

/-- The start of a capture samples its deadline start and makes the deadline test (R241). -/
theorem exec_rdsCapture_start_eq (hp : s.pos = .start) : exec (.rdsCapture fen gt gv) s = exec (.rdsCapture fen gt gv)
    { s with pos := .captureTest, tc := s.nowAnswer, env := s.env.popNow } := by
  rw [exec_rdsCapture_start hp, exec_rdsCapture_captureTest rfl, ← captureTestStep_withPos fen gt gv _ .captureTest]
  rfl

/-- The deadline test of a capture with time left begins a fetch cycle (R241). -/
theorem exec_rdsCapture_captureTest_running (hp : s.pos = .captureTest)
    (hleft : s.nowAnswer < s.tc + s.argCur.toNat * s.env.params.captureUnitMs) : exec (.rdsCapture fen gt gv) s =
      .next (fetchPollStep (captureGroup fen gt gv) captureNone (sampleT0 s.tickNow)) := by
  rw [exec_rdsCapture_captureTest hp, captureTestStep_running fen gt gv hleft]
  rfl

/-- A capture with duration 0 is over at once (R241). -/
theorem captureTestStep_zero (harg : s.argCur = 0) :
    captureTestStep fen gt gv (sampleTc s) = completeIn .ready .ok (sampleTc s).tickNow := by
  refine captureTestStep_expired fen gt gv ?_
  have hnow : s.nowAnswer ≤ (sampleTc s).nowAnswer := nowBound_le_state_nowAnswer (sampleTc s)
  simp [harg, hnow]

/-- Settles O57: each position of the capture, and the first poll of a cycle as any other. -/
theorem rdsCaptureEmitsMatchingGroups : Obligations.RdsCaptureEmitsMatchingGroups := by
  intro fen gt gv s
  refine ⟨exec_rdsCapture_start_eq fen gt gv, fun hp harg => ?zero, fun hp hover => ?expired, fun hp hleft => ?running,
    fun b hp hread hlen => ?poll, fun b hp hread hlen hready hleft => ?first, exec_rdsCapture_captureEmit,
    exec_rdsCapture_captureDelay⟩
  case zero =>
    refine ⟨_, (exec_rdsCapture_start hp).trans (congrArg _ (captureTestStep_zero fen gt gv harg)), ?_⟩
    exact ⟨rfl, rfl, rfl, rfl, rfl, ⟨rfl, rfl, rfl, rfl, rfl, rfl, rfl, rfl, rfl, rfl, rfl⟩, rfl, rfl⟩
  case expired =>
    rw [exec_rdsCapture_captureTest hp, captureTestStep_expired fen gt gv (Nat.not_lt.2 hover)]
    rfl
  case running =>
    rw [exec_rdsCapture_captureTest_running fen gt gv hp hleft, exec_rdsCapture_fetchPoll rfl,
      ← fetchPollStep_withPos _ _ _ .fetchPoll (captureGroup_withPos fen gt gv) (fun _ _ => rfl)]
    rfl
  case poll =>
    obtain ⟨t, ht, hpolled, _, hpos⟩ := captureFetchPoll_of_bytes hread hlen fen gt gv
    refine ⟨t, ht ▸ exec_rdsCapture_fetchPoll hp, hpolled, fun hready => ?_, fun hnot => ?_⟩
    · rw [hpos, if_pos hready]
    · rw [hpos, if_neg (Bool.eq_false_iff.1 hnot)]
  case first =>
    obtain ⟨t, ht, hpolled, _, hpos⟩ := captureFetchPoll_of_bytes (s := sampleT0 s.tickNow) hread hlen fen gt gv
    obtain ⟨hstream, hbytes, _⟩ := hpolled
    rw [if_pos hready] at hpos
    exact ⟨t, ht ▸ exec_rdsCapture_captureTest_running fen gt gv hp hleft, hstream, hbytes, hpos⟩

end

end Sys2Proof.Machine
end
